-- ==== Sys2Proof/Word.lean ====
section
/-! DEFINITION. The words the two links carry, and the head numbers. -/

namespace Sys2Proof

/-- One byte of a frame (R175). -/
abbrev Byte := BitVec 8

/-- A field of two bytes (R176). -/
abbrev Word := BitVec 16

/-- A twelve-bit quantity: a height, the requested feed, the bite, the floor preset, the level q (R176). -/
abbrev Twelve := BitVec 12

/-- A head number, 0 to 3 (00 Conventions). -/
abbrev Head := Fin 4

/-- A management source number, 0 to 3 (R142). -/
abbrev Source := Fin 4

end Sys2Proof
end

