-- ==== Sys2Proof/Syntax.lean ====
section
/-! DEFINITION. The commands of the part: one constructor for each row of spec/opcode_table.json, with the
fields of its frame at the widths the frame gives them (R23, R84, R176 to R179, R184). -/

namespace Sys2Proof

/-- A point of the plan with its height (R23, R176). -/
structure Point where
  x : Word
  y : Word
  z : Twelve
  deriving DecidableEq, Repr

/-- The two kinds of stroke (R23). -/
inductive StrokeKind
  | cut
  | travel
  deriving DecidableEq, Repr

/-- The stroke record of a STROKE frame (R23). -/
structure Stroke where
  head : Head
  tag : Word
  kind : StrokeKind
  start : Point
  finish : Point
  feed : Twelve
  notify : Bool
  deriving DecidableEq, Repr

/-- The part of a MANAGE header that every command carries beside its code (R178). -/
structure Header where
  seq : Byte
  source : Source
  deriving DecidableEq, Repr

/-- The operands of a MANAGE command: of the length its code requires, or of another length, which the
management unit answers BAD_OPERAND (R156, R179). -/
inductive Operands (α : Type)
  | given (ops : α)
  | wrongLength
  deriving DecidableEq, Repr

/-- No operand bytes (R179). -/
inductive NoOps
  | mk
  deriving DecidableEq, Repr

/-- One layer of a LOAD_BLOCK as the frame carries it: thickness in 2 bytes, grade in 1 (R179). -/
structure LayerOps where
  thickness : Word
  grade : Byte
  deriving DecidableEq, Repr

/-- LOAD_BLOCK (R14, R179); bottom layer first. -/
structure LoadBlockOps where
  columns : Word
  rows : Word
  pitch : Byte
  layers : List LayerOps
  deriving DecidableEq, Repr

/-- WRITE_GRADE (R12, R179). -/
structure WriteGradeOps where
  grade : Byte
  clear : Bool
  bite : Twelve
  dragLow : Word
  dragHigh : Word
  deriving DecidableEq, Repr

/-- SET_NOTIFY_WINDOW (R29, R179). -/
structure NotifyWindowOps where
  window : Byte
  enable : Bool
  mask : Word
  base : Word
  deriving DecidableEq, Repr

/-- The operand of a command that carries a head alone (R179). -/
structure HeadOps where
  head : Head
  deriving DecidableEq, Repr

/-- SET_HEAD (R121, R179). -/
structure SetHeadOps where
  head : Head
  enable : Bool
  zoneSet : Word
  guard : Byte
  rate : Byte
  travelMax : Word
  clearance : Byte
  lowWater : Byte
  deriving DecidableEq, Repr

/-- SET_POSITION and CLEAR_HEAD (R124, R136, R179). -/
structure HeadPointOps where
  head : Head
  point : Point
  deriving DecidableEq, Repr

/-- HOLD_HEAD (R125, R179): the kind is hard or soft. -/
structure HoldHeadOps where
  head : Head
  hard : Bool
  deriving DecidableEq, Repr

/-- SET_MONITOR (R115, R179). -/
structure SetMonitorOps where
  head : Head
  highDebounce : Byte
  lowDebounce : Byte
  stallDebounce : Byte
  stepDownCount : Byte
  tolerance : Byte
  deriving DecidableEq, Repr

/-- SET_TIMERS (R116, R179). -/
structure SetTimersOps where
  head : Head
  gapLimit : Word
  factor : Byte
  allowance : Word
  deriving DecidableEq, Repr

/-- SET_PRESET (R143, R179). -/
structure SetPresetOps where
  zone : Byte
  floor : Twelve
  deriving DecidableEq, Repr

/-- SET_SOURCE (R144, R179). -/
structure SetSourceOps where
  target : Byte
  protectedSet : Word
  deriving DecidableEq, Repr

/-- SPAN_WRITE (R146, R179); field byte 0 is ZONE, 1 is FLOOR. -/
structure SpanWriteOps where
  row : Byte
  firstColumn : Byte
  count : Byte
  field : Byte
  pattern : BitVec 32
  deriving DecidableEq, Repr

/-- SPAN_QUERY (R150, R179). -/
structure SpanQueryOps where
  row : Byte
  firstColumn : Byte
  count : Byte
  level : Twelve
  deriving DecidableEq, Repr

/-- READ_CELL (R151, R179). -/
structure ReadCellOps where
  column : Byte
  row : Byte
  deriving DecidableEq, Repr

/-- SET_EVENTS (R172, R179): 24 enables in the bit order of R176. -/
structure SetEventsOps where
  enables : BitVec 24
  deriving DecidableEq, Repr

/-- READ_STATUS (R160, R179). -/
structure ReadStatusOps where
  clearCounters : Bool
  deriving DecidableEq, Repr

/-- SET_JOB_TAG (R162, R179). -/
structure SetJobTagOps where
  tag : Word
  deriving DecidableEq, Repr

/-- The two links (00). -/
inductive Link
  | line
  | drive
  deriving DecidableEq, Repr

/-- The check of R166's table that a frame failed: 1 CRC, 2 kind, 3 length, 4 field. -/
inductive FrameCheck
  | crc
  | kind
  | length
  | field
  deriving DecidableEq, Repr

/-- The commands of the part, in the table's order. -/
inductive Instr
  | stroke (st : Stroke)
  | loadBlock (hdr : Header) (ops : Operands LoadBlockOps)
  | initialisationVisitEnd
  | unloadBlock (hdr : Header) (ops : Operands NoOps)
  | unloadVisitEnd
  | writeGrade (hdr : Header) (ops : Operands WriteGradeOps)
  | setNotifyWindow (hdr : Header) (ops : Operands NotifyWindowOps)
  | flushQueue (hdr : Header) (ops : Operands HeadOps)
  | setHead (hdr : Header) (ops : Operands SetHeadOps)
  | setPosition (hdr : Header) (ops : Operands HeadPointOps)
  | holdHead (hdr : Header) (ops : Operands HoldHeadOps)
  | releaseHead (hdr : Header) (ops : Operands HeadOps)
  | clearHead (hdr : Header) (ops : Operands HeadPointOps)
  | setMonitor (hdr : Header) (ops : Operands SetMonitorOps)
  | setTimers (hdr : Header) (ops : Operands SetTimersOps)
  | setPreset (hdr : Header) (ops : Operands SetPresetOps)
  | setSource (hdr : Header) (ops : Operands SetSourceOps)
  | spanWrite (hdr : Header) (ops : Operands SpanWriteOps)
  | spanQuery (hdr : Header) (ops : Operands SpanQueryOps)
  | readCell (hdr : Header) (ops : Operands ReadCellOps)
  | setEvents (hdr : Header) (ops : Operands SetEventsOps)
  | readStatus (hdr : Header) (ops : Operands ReadStatusOps)
  | setJobTag (hdr : Header) (ops : Operands SetJobTagOps)
  | resetPart (hdr : Header) (ops : Operands NoOps)
  /-- A MANAGE frame whose command code names no command (R156). -/
  | badCommand (hdr : Header) (code : Byte)
  /-- The admission unit evaluates one head (R59, R60). -/
  | evaluation (head : Head)
  /-- The admission unit makes a pass (R55, R61). -/
  | pass
  /-- The last byte of the frame on the drive transmitter has left (R88). -/
  | driveFrameSent
  /-- A STATUS frame: executing issue number or none, drag sample, blade cycles, milliseconds (R103, R184). -/
  | status (head : Head) (executing : Option Byte) (drag : BitVec 10) (cycles : Word) (ms : Word)
  /-- A COMPLETE frame; its end position is not used (R84, R92). -/
  | complete (head : Head) (issue : Byte) (endPosition : Point)
  /-- A HALTED frame: cells done k and stop position (R94). -/
  | halted (head : Head) (issue : Byte) (cellsDone : Word) (stop : Point)
  | driveFault (head : Head) (issue : Byte) (code : Byte)
  | statusGapExpiry (head : Head)
  | overdueExpiry (head : Head)
  | machineStopAsserted
  | machineStopDeasserted
  /-- A frame that ended with its second CRC byte and failed a check of R166. -/
  | corruptFrame (link : Link) (check : FrameCheck)
  /-- A frame abandoned at its length byte (R165). -/
  | lengthAbove48 (link : Link) (length : Byte)
  /-- A frame abandoned after 2 ms without a byte (R165). -/
  | receiveGap (link : Link)
  | replySent
  | doneSent
  | eventSent
  | resetPinLow
  | powerOnReset
  deriving DecidableEq, Repr

/-- The command codes of R179; none for a row that is no MANAGE command. -/
def Instr.code? : Instr → Option Byte
  | .loadBlock .. => some 0x01
  | .unloadBlock .. => some 0x02
  | .writeGrade .. => some 0x03
  | .setNotifyWindow .. => some 0x08
  | .flushQueue .. => some 0x09
  | .setHead .. => some 0x10
  | .setPosition .. => some 0x11
  | .holdHead .. => some 0x12
  | .releaseHead .. => some 0x13
  | .clearHead .. => some 0x14
  | .setMonitor .. => some 0x18
  | .setTimers .. => some 0x19
  | .setPreset .. => some 0x20
  | .setSource .. => some 0x21
  | .spanWrite .. => some 0x22
  | .spanQuery .. => some 0x23
  | .readCell .. => some 0x24
  | .setEvents .. => some 0x28
  | .readStatus .. => some 0x30
  | .setJobTag .. => some 0x31
  | .resetPart .. => some 0x3F
  | .badCommand _ code => some code
  | .stroke .. | .initialisationVisitEnd | .unloadVisitEnd | .evaluation .. | .pass | .driveFrameSent
  | .status .. | .complete .. | .halted .. | .driveFault .. | .statusGapExpiry .. | .overdueExpiry ..
  | .machineStopAsserted | .machineStopDeasserted | .corruptFrame .. | .lengthAbove48 .. | .receiveGap ..
  | .replySent | .doneSent | .eventSent | .resetPinLow | .powerOnReset => none

/-- The header of a MANAGE command (R178). -/
def Instr.header? : Instr → Option Header
  | .loadBlock hdr _ | .unloadBlock hdr _ | .writeGrade hdr _ | .setNotifyWindow hdr _ | .flushQueue hdr _
  | .setHead hdr _ | .setPosition hdr _ | .holdHead hdr _ | .releaseHead hdr _ | .clearHead hdr _
  | .setMonitor hdr _ | .setTimers hdr _ | .setPreset hdr _ | .setSource hdr _ | .spanWrite hdr _
  | .spanQuery hdr _ | .readCell hdr _ | .setEvents hdr _ | .readStatus hdr _ | .setJobTag hdr _
  | .resetPart hdr _ | .badCommand hdr _ => some hdr
  | .stroke .. | .initialisationVisitEnd | .unloadVisitEnd | .evaluation .. | .pass | .driveFrameSent
  | .status .. | .complete .. | .halted .. | .driveFault .. | .statusGapExpiry .. | .overdueExpiry ..
  | .machineStopAsserted | .machineStopDeasserted | .corruptFrame .. | .lengthAbove48 .. | .receiveGap ..
  | .replySent | .doneSent | .eventSent | .resetPinLow | .powerOnReset => none

/-- The codes that name a command (R179). -/
def commandCodes : List Byte :=
  [0x01, 0x02, 0x03, 0x08, 0x09, 0x10, 0x11, 0x12, 0x13, 0x14, 0x18, 0x19, 0x20, 0x21, 0x22, 0x23, 0x24,
   0x28, 0x30, 0x31, 0x3F]

end Sys2Proof
end

