-- ==== Sys2Proof/WellFormed.lean ====
section
/-! DEFINITION. The terms of `Instr` that a link event can be. The widths of the operands already rule out what
a frame cannot carry (R176); what is left is checked here. -/

namespace Sys2Proof

/-- A command is well formed: it is what the line port or the drive port hands on, or counts, as that row.
LOAD_BLOCK: its payload of 3 + 6 + 3 × N bytes is at most 48 (R175, R179).
BAD_COMMAND: the code names no command (R156). DRIVE_FAULT: the code is 1 to 255 (R84, R166).
CORRUPT_FRAME: a frame of either link can fail each check. LENGTH_ABOVE_48: the length byte is above 48 (R165). -/
def Instr.wellFormed : Instr → Bool
  | .loadBlock _ (.given ops) => ops.layers.length ≤ 13
  | .badCommand _ code => !commandCodes.contains code
  | .driveFault _ _ code => code != 0
  | .lengthAbove48 _ length => 48 < length.toNat
  | .loadBlock _ .wrongLength | .stroke .. | .initialisationVisitEnd | .unloadBlock .. | .unloadVisitEnd
  | .writeGrade .. | .setNotifyWindow .. | .flushQueue .. | .setHead .. | .setPosition .. | .holdHead ..
  | .releaseHead .. | .clearHead .. | .setMonitor .. | .setTimers .. | .setPreset .. | .setSource ..
  | .spanWrite .. | .spanQuery .. | .readCell .. | .setEvents .. | .readStatus .. | .setJobTag ..
  | .resetPart .. | .evaluation .. | .pass | .driveFrameSent | .status .. | .complete .. | .halted ..
  | .statusGapExpiry .. | .overdueExpiry .. | .machineStopAsserted | .machineStopDeasserted
  | .corruptFrame .. | .receiveGap .. | .replySent | .doneSent | .eventSent | .resetPinLow
  | .powerOnReset => true

end Sys2Proof
end

