-- ==== Sys2Proof/Decode.lean ====
section
/-! DEFINITION. Reading commands. The opcode table gives its rows no bits, so a table word spells no command
(`decodeTableWord`). The commands that frames spell are read here from the frames' bytes: the receivers of R165,
the checks of R166 and the inbound layouts of R175 to R179 and R184. -/

namespace Sys2Proof

/-- The command that a word of the opcode table spells. No row of the table gives bits: none (log entry 17). -/
def decodeTableWord (_nbits _w : Nat) : Option Instr := none

/-- Byte `i` of a payload, byte 0 the first after the kind byte (11). -/
def byteAt (payload : List Byte) (i : Nat) : Byte := payload.getD i 0

/-- The two-byte field at `i`, most significant byte first (R176). -/
def wordAt (payload : List Byte) (i : Nat) : Word := byteAt payload i ++ byteAt payload (i + 1)

/-- The low 12 bits of the two-byte field at `i` (R176). -/
def twelveAt (payload : List Byte) (i : Nat) : Twelve := (wordAt payload i).setWidth 12

/-- A flag byte uses its bit 0 (R176). -/
def flagAt (payload : List Byte) (i : Nat) : Bool := (byteAt payload i).getLsbD 0

/-- The point of 6 bytes at `i`; the bits of the height word above the low 12 are ignored (R176). -/
def pointAt (payload : List Byte) (i : Nat) : Point where
  x := wordAt payload i
  y := wordAt payload (i + 2)
  z := twelveAt payload (i + 4)

/-- The head that a tested head byte names (R166, check 4). -/
def headOf (b : Byte) : Head := Fin.ofNat 4 b.toNat

/-- One bit of the CRC: compared with the top bit of the register, the register shifted left, and the generator
combined in when the two differed (R176). -/
def crcBit (reg : Word) (bit : Bool) : Word :=
  if reg.msb == bit then reg <<< 1 else (reg <<< 1) ^^^ 0x8005

/-- One byte of the CRC, most significant bit first (R176). -/
def crcByte (reg : Word) (b : Byte) : Word :=
  [7, 6, 5, 4, 3, 2, 1, 0].foldl (fun r i => crcBit r (b.getLsbD i)) reg

/-- The CRC over the length, kind and payload bytes, preset 0xFFFF, no final inversion (R166, R176). -/
def crc (bytes : List Byte) : Word := bytes.foldl crcByte 0xFFFF

/-- The stroke record of a STROKE payload (R177). -/
def decodeStroke (payload : List Byte) : Stroke where
  head := headOf (byteAt payload 0)
  tag := wordAt payload 1
  kind := if byteAt payload 3 = 0 then .cut else .travel
  start := pointAt payload 5
  finish := pointAt payload 11
  feed := twelveAt payload 17
  notify := flagAt payload 4

/-- The operands when the operand length is the one the code requires (R179). -/
def sized {α : Type} (length required : Nat) (ops : α) : Operands α :=
  if length = required then .given ops else .wrongLength

/-- The layers of a LOAD_BLOCK, three bytes each from `i` on (R179). -/
def layersAt (payload : List Byte) (i : Nat) : Nat → List LayerOps
  | 0 => []
  | n + 1 => ⟨wordAt payload i, byteAt payload (i + 2)⟩ :: layersAt payload (i + 3) n

/-- The operands of a LOAD_BLOCK: 6 + 3 × N bytes, N in operand byte 5 (R179). -/
def decodeLoadBlock (payload : List Byte) : Operands LoadBlockOps :=
  let layerCount := (byteAt payload 8).toNat
  if payload.length < 9 then .wrongLength
  else sized (payload.length - 3) (6 + 3 * layerCount)
    ⟨wordAt payload 3, wordAt payload 5, byteAt payload 7, layersAt payload 9 layerCount⟩

/-- The command of a MANAGE payload that passed the line port's checks: header in bytes 0 to 2, operands from
byte 3 on, each at the place R179 gives it. -/
def decodeManage (p : List Byte) : Instr :=
  let hdr : Header := ⟨byteAt p 0, Fin.ofNat 4 (byteAt p 2).toNat⟩
  let length := p.length - 3
  let head := headOf (byteAt p 3)
  match (byteAt p 1).toNat with
  | 0x01 => .loadBlock hdr (decodeLoadBlock p)
  | 0x02 => .unloadBlock hdr (sized length 0 .mk)
  | 0x03 => .writeGrade hdr
      (sized length 8 ⟨byteAt p 3, flagAt p 4, twelveAt p 5, wordAt p 7, wordAt p 9⟩)
  | 0x08 => .setNotifyWindow hdr (sized length 6 ⟨byteAt p 3, flagAt p 4, wordAt p 5, wordAt p 7⟩)
  | 0x09 => .flushQueue hdr (sized length 1 ⟨head⟩)
  | 0x10 => .setHead hdr
      (sized length 10 ⟨head, flagAt p 4, wordAt p 5, byteAt p 7, byteAt p 8, wordAt p 9, byteAt p 11,
        byteAt p 12⟩)
  | 0x11 => .setPosition hdr (sized length 7 ⟨head, pointAt p 4⟩)
  | 0x12 => .holdHead hdr (sized length 2 ⟨head, flagAt p 4⟩)
  | 0x13 => .releaseHead hdr (sized length 1 ⟨head⟩)
  | 0x14 => .clearHead hdr (sized length 7 ⟨head, pointAt p 4⟩)
  | 0x18 => .setMonitor hdr
      (sized length 6 ⟨head, byteAt p 4, byteAt p 5, byteAt p 6, byteAt p 7, byteAt p 8⟩)
  | 0x19 => .setTimers hdr (sized length 6 ⟨head, wordAt p 4, byteAt p 6, wordAt p 7⟩)
  | 0x20 => .setPreset hdr (sized length 3 ⟨byteAt p 3, twelveAt p 4⟩)
  | 0x21 => .setSource hdr (sized length 3 ⟨byteAt p 3, wordAt p 4⟩)
  | 0x22 => .spanWrite hdr
      (sized length 8 ⟨byteAt p 3, byteAt p 4, byteAt p 5, byteAt p 6, wordAt p 7 ++ wordAt p 9⟩)
  | 0x23 => .spanQuery hdr (sized length 5 ⟨byteAt p 3, byteAt p 4, byteAt p 5, twelveAt p 6⟩)
  | 0x24 => .readCell hdr (sized length 2 ⟨byteAt p 3, byteAt p 4⟩)
  | 0x28 => .setEvents hdr (sized length 3 ⟨byteAt p 3 ++ wordAt p 4⟩)
  | 0x30 => .readStatus hdr (sized length 1 ⟨flagAt p 3⟩)
  | 0x31 => .setJobTag hdr (sized length 2 ⟨wordAt p 3⟩)
  | 0x3F => .resetPart hdr (sized length 0 .mk)
  | _ => .badCommand hdr (byteAt p 1)

/-- The commands marked H, whose operand byte 0 is a head (R179). -/
def carriesHead (code : Byte) : Bool :=
  [0x09, 0x10, 0x11, 0x12, 0x13, 0x14, 0x18, 0x19].contains code.toNat

/-- A frame of a line-link kind, after the CRC check: checks 2 to 4 of R166, then the command. -/
def decodeLineFrame (kind : Byte) (p : List Byte) : Instr :=
  match kind.toNat with
  | 0x10 =>
    if p.length ≠ 19 then .corruptFrame .line .length
    else if 3 < (byteAt p 0).toNat ∨ 1 < (byteAt p 3).toNat then .corruptFrame .line .field
    else .stroke (decodeStroke p)
  | 0x11 =>
    if p.length < 3 then .corruptFrame .line .length
    else if carriesHead (byteAt p 1) ∧ 3 < p.length ∧ 3 < (byteAt p 3).toNat then .corruptFrame .line .field
    else decodeManage p
  | _ => .corruptFrame .line .kind

/-- A frame of a drive-link kind, after the CRC check: checks 2 to 4 of R166, then the command (R184). -/
def decodeDriveFrame (kind : Byte) (p : List Byte) : Instr :=
  let head := headOf (byteAt p 0)
  let headBad := 3 < (byteAt p 0).toNat
  match kind.toNat with
  | 0xA0 =>
    if p.length ≠ 9 then .corruptFrame .drive .length
    else if headBad then .corruptFrame .drive .field
    else .status head (if flagAt p 1 then some (byteAt p 2) else none) ((wordAt p 3).setWidth 10)
      (wordAt p 5) (wordAt p 7)
  | 0xA1 =>
    if p.length ≠ 8 then .corruptFrame .drive .length
    else if headBad then .corruptFrame .drive .field
    else .complete head (byteAt p 1) (pointAt p 2)
  | 0xA2 =>
    if p.length ≠ 10 then .corruptFrame .drive .length
    else if headBad then .corruptFrame .drive .field
    else .halted head (byteAt p 1) (wordAt p 2) (pointAt p 4)
  | 0xA3 =>
    if p.length ≠ 3 then .corruptFrame .drive .length
    else if headBad ∨ byteAt p 2 = 0 then .corruptFrame .drive .field
    else .driveFault head (byteAt p 1) (byteAt p 2)
  | _ => .corruptFrame .drive .kind

/-- The command of a frame that ended with its second CRC byte: the checks of R166 in their order. -/
def decodeFrame (link : Link) (kind : Byte) (payload : List Byte) (crcReceived : Word) : Instr :=
  if crc (BitVec.ofNat 8 payload.length :: kind :: payload) ≠ crcReceived then .corruptFrame link .crc
  else match link with
    | .line => decodeLineFrame kind payload
    | .drive => decodeDriveFrame kind payload

/-- Where the receiver of a link stands (R165). -/
inductive Receiver
  /-- Between frames. -/
  | hunting
  /-- The start delimiter has come. -/
  | delimited
  /-- The payload length has come. -/
  | sizedBy (length : Nat)
  /-- The kind has come; the payload and CRC bytes come, the newest first in the list. -/
  | inside (length : Nat) (kind : Byte) (newestFirst : List Byte)
  deriving DecidableEq, Repr

/-- One byte arrives at the receiver of a link; the command, if the byte completes or ends a frame (R165). -/
def Receiver.take (link : Link) : Receiver → Byte → Receiver × Option Instr
  | .hunting, b => (if b = 0xC3 then .delimited else .hunting, none)
  | .delimited, b =>
    if 48 < b.toNat then (.hunting, some (.lengthAbove48 link b)) else (.sizedBy b.toNat, none)
  | .sizedBy n, b => (.inside n b [], none)
  | .inside n kind got, b =>
    if got.length < n + 1 then (.inside n kind (b :: got), none)
    else
      let bytes := (b :: got).reverse
      (.hunting, some (decodeFrame link kind (bytes.take n) (wordAt bytes n)))

/-- More than 2 ms pass without a byte: a frame under way is abandoned (R165). -/
def Receiver.gap (link : Link) : Receiver → Receiver × Option Instr
  | .hunting => (.hunting, none)
  | .delimited | .sizedBy _ | .inside _ _ _ => (.hunting, some (.receiveGap link))

/-- What reaches the receiver of a link: one byte, or the end of 2 ms without a byte (R165). -/
inductive Signal
  | byte (link : Link) (b : Byte)
  | gap (link : Link)
  deriving DecidableEq, Repr

/-- The link of a signal. -/
def Signal.link : Signal → Link
  | .byte link _ => link
  | .gap link => link

/-- A signal reaches the receiver of its link; the command, if the signal ends a frame (R165). -/
def Receiver.hear (x : Signal) (r : Receiver) : Receiver × Option Instr :=
  match x with
  | .byte link b => r.take link b
  | .gap link => r.gap link

/-- The receivers of the two links (R165). -/
structure Receivers where
  line : Receiver
  drive : Receiver
  deriving DecidableEq, Repr

/-- Both receivers hunt for a start delimiter (R174, R186). -/
def Receivers.hunting : Receivers := ⟨.hunting, .hunting⟩

/-- The receiver of a link. -/
def Receivers.of (rs : Receivers) : Link → Receiver
  | .line => rs.line
  | .drive => rs.drive

/-- Replaces the receiver of a link. -/
def Receivers.put (rs : Receivers) (r : Receiver) : Link → Receivers
  | .line => { rs with line := r }
  | .drive => { rs with drive := r }

/-- The commands that a stream of bytes with no receive gap spells, from a receiver on (R165). -/
def Receiver.commands (link : Link) : Receiver → List Byte → List Instr
  | _, [] => []
  | r, b :: rest =>
    match r.take link b with
    | (r', some c) => c :: Receiver.commands link r' rest
    | (r', none) => Receiver.commands link r' rest

end Sys2Proof
end

