-- ==== Sys2Proof/Machine/State.lean ====
section
/-! DEFINITION. The state of the part as plain data, its records in the order of the spec's chapters, the
reasons a step can stop, and the state right after power-on reset. -/

namespace Sys2Proof.Machine

/-! ### The block, the cut map and the grades (chapter 01) -/

/-- The block state (R1). -/
inductive BlockState
  | noBlock
  | initialising
  | loaded
  deriving DecidableEq, Repr

/-- One layer of the layer stack (R1, R3). -/
structure Layer where
  thickness : Nat
  grade : Nat
  deriving DecidableEq, Repr

/-- The block record (R1); `layers` bottom layer first. -/
structure BlockRecord where
  state : BlockState
  columns : Nat
  rows : Nat
  pitch : Nat
  layers : List Layer
  top : Nat
  unloadVisit : Bool
  deriving DecidableEq, Repr

/-- A cell record of the cut map (R5); the claim fields are those of R45. -/
structure Cell where
  kerfFloor : Nat
  floorLimit : Nat
  zone : Nat
  owner : Option Head
  count : Nat
  unsure : Bool
  deriving DecidableEq, Repr

/-- The cut map: the cells that differ from the cell of R16, by address (256 × row + column), addresses
strictly rising. Log entry 11. -/
abbrev CutMap := List (Nat × Cell)

/-- An entry of the grade table (R10). -/
structure GradeEntry where
  set : Bool
  bite : Nat
  dragLow : Nat
  dragHigh : Nat
  deriving DecidableEq, Repr

/-! ### Queues and windows (chapter 02) -/

/-- A tag window (R28). -/
structure TagWindow where
  enable : Bool
  mask : Word
  base : Word
  deriving DecidableEq, Repr

/-- A queued stroke: the stroke record with its marking, notify or silent (R25, R27). -/
structure QueuedStroke where
  stroke : Stroke
  notify : Bool
  deriving DecidableEq, Repr

/-- A point with its valid flag: a chain end or a reported position (R35, R36). -/
structure Position where
  point : Point
  valid : Bool
  deriving DecidableEq, Repr

/-! ### Claims and waits (chapter 03) -/

/-- A cell of the cut map by its column and row (R5). -/
structure CellRef where
  column : Nat
  row : Nat
  deriving DecidableEq, Repr

/-- An entry of the wait list: a head and its waiting footprint (R50). -/
structure WaitEntry where
  head : Head
  footprint : List CellRef
  deriving DecidableEq, Repr

/-- An occasion of evaluation: of one head (R60), or a pass of every head, or of every head but one (R61). -/
inductive Occasion
  | one (head : Head)
  | pass (except : Option Head)
  deriving DecidableEq, Repr

/-! ### In-flight records (chapters 04, 05) -/

/-- A drag window: the low and high bound of a grade (R10, R81). -/
structure DragWindow where
  low : Nat
  high : Nat
  deriving DecidableEq, Repr

/-- An in-flight record (R81). `overdueLimit` is none until the record becomes the oldest of its list (R113). -/
structure InFlight where
  issue : Byte
  stroke : Stroke
  notify : Bool
  pathLength : Nat
  guard : Nat
  dominant : Option Nat
  window : Option DragWindow
  ratedFeed : Nat
  rate : Nat
  reserved : Bool
  sawHigh : Bool
  overdueLimit : Option Nat
  deriving DecidableEq, Repr

/-- A frame of the drive link that the part sends (R84). -/
inductive DriveFrame
  | issue (head : Head) (issue : Byte) (kind : StrokeKind) (start finish : Point) (ratedFeed rate pathLength : Nat)
  | halt (head : Head)
  deriving DecidableEq, Repr

/-! ### Blade monitor (chapter 06) -/

/-- The runs, the clean count and the derate level of a head (R102). -/
structure Monitor where
  highRun : Nat
  lowRun : Nat
  stallRun : Nat
  cleanCount : Nat
  derate : Nat
  deriving DecidableEq, Repr

/-- The status-gap timer: stopped, or running with the gap limit in force (R102, R112). Log entry 3. -/
inductive GapTimer
  | stopped
  | running (limit : Nat)
  deriving DecidableEq, Repr

/-- The settings that SET_MONITOR writes (R102, R115). -/
structure MonitorSettings where
  highDebounce : Nat
  lowDebounce : Nat
  stallDebounce : Nat
  stepDownCount : Nat
  tolerance : Nat
  deriving DecidableEq, Repr

/-- The settings that SET_TIMERS writes (R102, R116). -/
structure TimerSettings where
  gapLimit : Nat
  factor : Nat
  allowance : Nat
  deriving DecidableEq, Repr

/-! ### Heads (chapter 07) -/

/-- The state of a head (R119). -/
inductive HeadState
  | off
  | ready
  | cutting
  | held
  | fault
  deriving DecidableEq, Repr

/-- Why a head in HELD is held (R119). -/
inductive HoldCause
  | soft
  | hard
  | refused
  deriving DecidableEq, Repr

/-- The causes of a fault (R119, R131). -/
inductive FaultCause
  | dragHigh
  | bladeLoss
  | bladeStall
  | overdue
  | driveSilent
  | driveFault
  | machineStop
  deriving DecidableEq, Repr

/-- The first-fault latch (R119). -/
structure Latch where
  cause : Option FaultCause
  issue : Option Byte
  code : Byte
  deriving DecidableEq, Repr

/-- The six settings of a head (R121). -/
structure Settings where
  zoneSet : BitVec 16
  guard : Nat
  rate : Nat
  travelMax : Nat
  clearance : Nat
  lowWater : Nat
  deriving DecidableEq, Repr

/-- Everything the units of the part keep for one head: head control (R119), its stroke queue (R25), its two
points (R35, R36), the drive port's list, counter and flag (R85, R86, R89), the blade monitor (R102). -/
structure HeadRecord where
  state : HeadState
  holdCause : Option HoldCause
  latch : Latch
  furtherFaults : Nat
  holdReplyOwed : Bool
  settings : Settings
  queue : List QueuedStroke
  chainEnd : Position
  reported : Position
  inFlight : List InFlight
  issueCounter : Byte
  haltOutstanding : Bool
  monitor : Monitor
  gapTimer : GapTimer
  overdueRunning : Bool
  monitorSettings : MonitorSettings
  timerSettings : TimerSettings
  deriving DecidableEq, Repr

/-! ### Map programming (chapter 08) -/

/-- A source record (R141). -/
structure SourceRecord where
  zonePreset : Nat
  floorPreset : Nat
  protectedSet : BitVec 16
  deriving DecidableEq, Repr

/-! ### Management (chapter 09) -/

/-- The statuses of a REPLY (R157). -/
inductive Status
  | ok
  | badCommand
  | badOperand
  | badSource
  | noBlock
  | busyCutting
  | state
  | machineStop
  | faulted
  deriving DecidableEq, Repr

/-- The four link counters (R167). -/
structure LinkCounters where
  lineCrc : Nat
  lineMalformed : Nat
  driveCrc : Nat
  driveMalformed : Nat
  deriving DecidableEq, Repr

/-- The cause field of a head's part of the status record (R160). -/
inductive StatusCause
  | none
  | hold (cause : HoldCause)
  | fault (cause : FaultCause)
  deriving DecidableEq, Repr

/-- A head's part of the status record (R160). -/
structure HeadStatus where
  state : HeadState
  cause : StatusCause
  furtherFaults : Nat
  queueDepth : Nat
  inFlight : Nat
  derate : Nat
  reported : Position
  chainEnd : Position
  deriving DecidableEq, Repr

/-- The status record (R160). -/
structure StatusRecord where
  blockState : BlockState
  slotsInUse : Nat
  machineStop : Bool
  lineHold : Bool
  counters : LinkCounters
  jobTag : Word
  heads : Vector HeadStatus 4
  deriving DecidableEq, Repr

/-- The results of a REPLY, one form for each command that carries some (R157, R180). -/
inductive Results
  | none
  | loadBlock (top flushed : Nat)
  | unloadBlock (cut unsure : Nat)
  | writeGrade (previous : GradeEntry)
  | setNotifyWindow (previous : TagWindow)
  | flushQueue (removed : Nat)
  | setHead (after : HeadState) (previous : Settings)
  | setPosition (previous : Position)
  | holdHead (cause : Option HoldCause) (reported : Position)
  | holdFaulted (cause : FaultCause)
  | releaseHead (entered : HeadState)
  | clearHead (resolved flushed : Nat)
  | setMonitor (previous : MonitorSettings)
  | setTimers (previous : TimerSettings)
  | setPreset (previousZone previousFloor : Nat)
  | setSource (previous : BitVec 16)
  | spanWrite (written shielded outside : Nat)
  | spanQuery (cut unsure : BitVec 32)
  | readCell (cell : Cell)
  | setEvents (previous : BitVec 24)
  | readStatus (record : StatusRecord)
  | setJobTag (previous : Word)
  deriving DecidableEq, Repr

/-- A REPLY: the sequence byte and command code echoed, a status, the results (R157). -/
structure Reply where
  seq : Byte
  code : Byte
  status : Status
  results : Results
  deriving DecidableEq, Repr

/-- The management unit: the command slot (R153), the count a LOAD_BLOCK keeps for its REPLY (R15) and the
job tag (R162). The slot holds the command with its header and operands. -/
structure Management where
  slot : Option Instr
  loadFlushed : Nat
  jobTag : Word
  deriving DecidableEq, Repr

/-! ### Outbound traffic (chapter 10) -/

/-- The reasons of a refusal (R72). -/
inductive RefusalReason
  | noPosition
  | discontinuous
  | outOfBlock
  | tooLong
  | badTravel
  | zoneDenied
  | belowFloor
  | gradeUnset
  | feedZero
  deriving DecidableEq, Repr

/-- How a stroke with a notice ended (R96). -/
inductive StrokeOutcome
  | complete
  | halted
  | unresolved
  deriving DecidableEq, Repr

/-- A DONE notice (R96). -/
structure Notice where
  head : Head
  issue : Byte
  tag : Word
  outcome : StrokeOutcome
  cells : Option Nat
  ratedFeed : Nat
  deriving DecidableEq, Repr

/-- A queued notice of the done queue, and whether its frame is on the transmitter (R168, R169). -/
structure QueuedNotice where
  notice : Notice
  sending : Bool
  deriving DecidableEq, Repr

/-- The per-head event classes in the order of R183. -/
inductive HeadClass
  | headFault
  | strokeRefused
  | queueLow
  | queueOverflow
  | derateChange
  deriving DecidableEq, Repr

/-- The part-wide event classes in the order of R183. -/
inductive PartClass
  | linkError
  | mgmtOverrun
  | staleReport
  | machineStop
  deriving DecidableEq, Repr

/-- The 24 slots of the event pending set (R170). -/
inductive EventClass
  | ofHead (cls : HeadClass) (head : Head)
  | ofPart (cls : PartClass)
  deriving DecidableEq, Repr

/-- The two errors of a dropped frame (R167). -/
inductive LinkError
  | crc
  | malformed
  deriving DecidableEq, Repr

/-- The reports that can be stale (R97). -/
inductive ReportKind
  | complete
  | halted
  | driveFault
  deriving DecidableEq, Repr

/-- The details that the first occurrence of a class leaves (R170). -/
inductive Details
  | headFault (cause : FaultCause) (issue : Option Byte) (code : Byte)
  | strokeRefused (tag : Word) (reason : RefusalReason)
  | queueLow (tag : Word) (issue : Byte)
  | queueOverflow (tag : Word)
  | derateChange (level : Nat) (issue : Byte)
  | linkError (link : Link) (error : LinkError)
  | mgmtOverrun (code seq : Byte)
  | staleReport (head : Head) (issue : Byte) (kind : ReportKind)
  | machineStop (asserted : Bool)
  deriving DecidableEq, Repr

/-- A record of occurrences: the details of the first and the count, 1 to 255 (R170). -/
structure Occurrence where
  details : Details
  count : Nat
  deriving DecidableEq, Repr

/-- A pending slot of the event pending set, with its late record while it is being sent (R170, R171). -/
structure EventSlot where
  cls : EventClass
  first : Occurrence
  sending : Bool
  late : Option Occurrence
  deriving DecidableEq, Repr

/-- A frame on the line transmitter (R173). `reply` is a REPLY of one frame or the first frame of a status
record, `statusSecond` the second one (R181); a DONE or EVENT frame holds the job tag read at its placing (R162). -/
inductive LineFrame
  | reply (reply : Reply)
  | statusSecond (reply : Reply)
  | done (notice : Notice) (jobTag : Word)
  | event (cls : EventClass) (record : Occurrence) (jobTag : Word)
  deriving DecidableEq, Repr

/-- A placed frame with the number of its free values (log entries 9 and 10). -/
structure PlacedFrame where
  frame : LineFrame
  fresh : Nat
  deriving DecidableEq, Repr

/-- The outbound arbiter: reply slot, queued notices, pending slots in age order (oldest first), the class
enables and the line transmitter (R168 to R173). -/
structure Outbound where
  replySlot : Option Reply
  notices : List QueuedNotice
  events : List EventSlot
  enables : BitVec 24
  tx : Option PlacedFrame
  deriving DecidableEq, Repr

/-- The drive transmit queue and the drive transmitter (R88). -/
structure DrivePort where
  queue : List DriveFrame
  tx : Option DriveFrame
  deriving DecidableEq, Repr

/-! ### Pins -/

/-- The RESET pin, the MACHINE STOP input as taken, and the LINE HOLD output (R120, R186). -/
structure Pins where
  resetLow : Bool
  machineStop : Bool
  lineHold : Bool
  deriving DecidableEq, Repr

/-! ### The part -/

/-- The whole state of the part, the queue of commands that wait (log entry 4) and the signals on their way to the
receivers (log entry 5). `fresh` counts the free values used; it is the model's own (log entry 9). -/
structure State where
  pending : List Instr
  arriving : List Signal
  receivers : Receivers
  pins : Pins
  block : BlockRecord
  cells : CutMap
  grades : Vector GradeEntry 16
  windows : Vector TagWindow 4
  heads : Vector HeadRecord 4
  waitList : List WaitEntry
  occasions : List Occasion
  sources : Vector SourceRecord 4
  mgmt : Management
  counters : LinkCounters
  out : Outbound
  drive : DrivePort
  fresh : Nat
  deriving DecidableEq, Repr

/-- The reasons the machine stops with a fault. There is none: a faulted head, a refused command and a dropped
frame are all state of the part (R131, R157, R167). Safe. -/
inductive Fault
  deriving DecidableEq, Repr

/-- The reasons a command has no meaning here. -/
inductive Refusal
  /-- Raised by exec's arm of a command that has no meaning yet; no arm of this model raises it. Safe. -/
  | notModelled (mnemonic : String)
  deriving DecidableEq, Repr

/-- The outcome of a command. -/
abbrev Result := Host.Outcome State Fault Refusal

/-! ### The updates of the state, one for each field -/

def State.withPending (s : State) (v : List Instr) : State := { s with pending := v }
def State.withArriving (s : State) (v : List Signal) : State := { s with arriving := v }
def State.withReceivers (s : State) (v : Receivers) : State := { s with receivers := v }
def State.withPins (s : State) (v : Pins) : State := { s with pins := v }
def State.withBlock (s : State) (v : BlockRecord) : State := { s with block := v }
def State.withCells (s : State) (v : CutMap) : State := { s with cells := v }
def State.withGrades (s : State) (v : Vector GradeEntry 16) : State := { s with grades := v }
def State.withWindows (s : State) (v : Vector TagWindow 4) : State := { s with windows := v }
def State.withHeads (s : State) (v : Vector HeadRecord 4) : State := { s with heads := v }
def State.withWaitList (s : State) (v : List WaitEntry) : State := { s with waitList := v }
def State.withOccasions (s : State) (v : List Occasion) : State := { s with occasions := v }
def State.withSources (s : State) (v : Vector SourceRecord 4) : State := { s with sources := v }
def State.withMgmt (s : State) (v : Management) : State := { s with mgmt := v }
def State.withCounters (s : State) (v : LinkCounters) : State := { s with counters := v }
def State.withOut (s : State) (v : Outbound) : State := { s with out := v }
def State.withDrive (s : State) (v : DrivePort) : State := { s with drive := v }
def State.withFresh (s : State) (v : Nat) : State := { s with fresh := v }

/-! ### The state after power-on reset -/

/-- The block record after reset (R1). -/
def BlockRecord.reset : BlockRecord where
  state := .noBlock
  columns := 0
  rows := 0
  pitch := 0
  layers := []
  top := 0
  unloadVisit := false

/-- A grade entry that is not set (R10). -/
def GradeEntry.unset : GradeEntry := ⟨false, 0, 0, 0⟩

/-- The grade table after reset: grade 0 alone is set (R10). -/
def gradesReset : Vector GradeEntry 16 := (Vector.replicate 16 GradeEntry.unset).set 0 ⟨true, 2000, 0, 1023⟩

/-- A point that is not valid (R35, R36). -/
def Position.invalid : Position := ⟨⟨0, 0, 0⟩, false⟩

/-- The empty first-fault latch (R119). -/
def Latch.empty : Latch := ⟨none, none, 0⟩

/-- The monitor state of a head that starts anew (R102, R117). -/
def Monitor.reset : Monitor := ⟨0, 0, 0, 0, 0⟩

/-- A head after reset (R38, R101, R102, R119, R121). -/
def HeadRecord.reset : HeadRecord where
  state := .off
  holdCause := none
  latch := .empty
  furtherFaults := 0
  holdReplyOwed := false
  settings := { zoneSet := BitVec.allOnes 16, guard := 2, rate := 40, travelMax := 1000, clearance := 20, lowWater := 4 }
  queue := []
  chainEnd := .invalid
  reported := .invalid
  inFlight := []
  issueCounter := 0
  haltOutstanding := false
  monitor := .reset
  gapTimer := .stopped
  overdueRunning := false
  monitorSettings :=
    { highDebounce := 3, lowDebounce := 4, stallDebounce := 2, stepDownCount := 4, tolerance := 20 }
  timerSettings := { gapLimit := 100, factor := 8, allowance := 500 }

/-- The outbound arbiter after power-on reset (R174). -/
def Outbound.reset : Outbound := ⟨none, [], [], BitVec.allOnes 24, none⟩

/-- The part right after power-on reset, with MACHINE STOP deasserted (log entry 7) and nothing waiting. -/
def State.reset : State where
  pending := []
  arriving := []
  receivers := .hunting
  pins := ⟨false, false, false⟩
  block := .reset
  cells := []
  grades := gradesReset
  windows := Vector.replicate 4 ⟨false, 0, 0⟩
  heads := Vector.replicate 4 .reset
  waitList := []
  occasions := []
  sources := Vector.replicate 4 ⟨0, 0, 0⟩
  mgmt := ⟨none, 0, 0⟩
  counters := ⟨0, 0, 0, 0⟩
  out := .reset
  drive := ⟨[], none⟩
  fresh := 0

end Sys2Proof.Machine
end

