-- ==== Sys2Proof/Machine/Flags.lean ====
section
/-! DEFINITION. The event pending set (R170 to R172), the link counters (R167), the done slots (R168) and
LINE HOLD (R120). -/

namespace Sys2Proof.Machine

/-! ### The event pending set -/

/-- The class codes of the per-head classes (R183). -/
def HeadClass.code : HeadClass → Nat
  | .headFault => 0
  | .strokeRefused => 1
  | .queueLow => 2
  | .queueOverflow => 3
  | .derateChange => 4

/-- The class codes of the part-wide classes (R183). -/
def PartClass.code : PartClass → Nat
  | .linkError => 5
  | .mgmtOverrun => 6
  | .staleReport => 7
  | .machineStop => 8

/-- The bit of a slot among the 24 enables: 5h + c, or 20 + (c − 5) (R176). -/
def EventClass.bit : EventClass → Nat
  | .ofHead cls h => 5 * h.val + cls.code
  | .ofPart cls => 20 + (cls.code - 5)

/-- A class is enabled (R172). -/
def enabledIn (enables : BitVec 24) (cls : EventClass) : Bool := enables.getLsbD cls.bit

/-- A further occurrence: the count rises by 1 and stops at 255, the details are kept (R170). -/
def Occurrence.again (o : Occurrence) : Occurrence := { o with count := min 255 (o.count + 1) }

/-- An occurrence reaches a pending slot; while the slot is being sent it goes to the late record (R170, R171). -/
def EventSlot.record (d : Details) (e : EventSlot) : EventSlot :=
  if e.sending then
    { e with late := some (match e.late with | none => ⟨d, 1⟩ | some o => o.again) }
  else { e with first := e.first.again }

/-- The slot of a class is pending (R170). -/
def isPending (events : List EventSlot) (cls : EventClass) : Bool := events.any fun e => e.cls == cls

/-- An occurrence of a class (R170). -/
def Outbound.raise (cls : EventClass) (d : Details) (o : Outbound) : Outbound :=
  if !enabledIn o.enables cls then o
  else if isPending o.events cls then
    { o with events := o.events.map fun e => if e.cls == cls then e.record d else e }
  else { o with events := o.events ++ [⟨cls, ⟨d, 1⟩, false, none⟩] }

/-- An occurrence of a class reaches the part's event pending set (R170). -/
def State.raise (cls : EventClass) (d : Details) (s : State) : State := s.withOut (s.out.raise cls d)

/-- The last byte of the EVENT frame of a class has left: the slot being sent becomes not pending, or takes over
its late record as the newest (R171). A class with no slot being sent is left as it is (R172, R174). -/
def finishEvent (cls : EventClass) (events : List EventSlot) : List EventSlot :=
  let rest := events.filter fun e => !(e.cls == cls && e.sending)
  match events.find? fun e => e.cls == cls && e.sending with
  | none => events
  | some e =>
    match e.late with
    | none => rest
    | some o => rest ++ [⟨cls, o, false, none⟩]

/-! ### The link counters -/

/-- A counter counts to 65535 and stays there (R167). -/
def countUp (n : Nat) : Nat := min 65535 (n + 1)

/-- A dropped frame raises its link's counter by 1 (R166, R167). -/
def LinkCounters.bump (link : Link) (error : LinkError) (c : LinkCounters) : LinkCounters :=
  match link, error with
  | .line, .crc => { c with lineCrc := countUp c.lineCrc }
  | .line, .malformed => { c with lineMalformed := countUp c.lineMalformed }
  | .drive, .crc => { c with driveCrc := countUp c.driveCrc }
  | .drive, .malformed => { c with driveMalformed := countUp c.driveMalformed }

/-- The counter that each failed check raises (R166). -/
def errorOf : FrameCheck → LinkError
  | .crc => .crc
  | .kind => .malformed
  | .length => .malformed
  | .field => .malformed

/-- A frame is dropped: counted on its link and an occurrence of LINK_ERROR (R167). -/
def State.dropFrame (link : Link) (error : LinkError) (s : State) : State :=
  (s.withCounters (s.counters.bump link error)).raise (.ofPart .linkError) (.linkError link error)

/-- The receiver of a link hunts for a start delimiter (R165). -/
def State.hunt (link : Link) (s : State) : State := s.withReceivers (s.receivers.put .hunting link)

/-- A frame of a link ends or is abandoned without being taken: its receiver hunts again, and the frame is dropped
(R165, R166). -/
def State.endFrame (link : Link) (error : LinkError) (s : State) : State := (s.hunt link).dropFrame link error

/-! ### The done queue -/

/-- The reservations a head's records hold (R168). -/
def HeadRecord.reservations (hd : HeadRecord) : Nat := hd.inFlight.countP InFlight.reserved

/-- The done-queue slots in use: reservations and queued notices (R168). -/
def State.slotsInUse (s : State) : Nat := (s.heads.toList.map HeadRecord.reservations).sum + s.out.notices.length

/-! ### LINE HOLD -/

/-- The level the LINE HOLD output has: asserted while RESET is low (R186), while MACHINE STOP is asserted or
while a head is in FAULT (R120). -/
def State.lineHoldLevel (s : State) : Bool :=
  s.pins.resetLow || s.pins.machineStop || s.heads.toList.any fun hd => hd.state == .fault

/-- The output follows the state at once (R120). Log entry 6. -/
def State.driveLineHold (s : State) : State := s.withPins { s.pins with lineHold := s.lineHoldLevel }

end Sys2Proof.Machine
end

