-- ==== Sys2Proof/Machine/Operands.lean ====
section
/-! DEFINITION. What the operands of a stroke stand for: cells and coordinates (R9), layers (R3, R4), path cells
and path heights (R39 to R41), footprints (R43); and the ranges that operand tests name. -/

namespace Sys2Proof.Machine

/-- A number lies in the range lo to hi, both ends included (00 Conventions). -/
def inRange (lo hi n : Nat) : Bool := lo ≤ n && n ≤ hi

/-- Division rounded up (00 Conventions). -/
def ceilDiv (a b : Nat) : Nat := (a + b - 1) / b

/-- The quotient a / n rounded half away from zero (00 Conventions); 0 for n = 0, where no quotient is formed. -/
def roundDiv (a : Int) (n : Nat) : Int :=
  if 0 ≤ a then (2 * a + n) / (2 * n) else -((2 * -a + n) / (2 * n))

/-! ### Layers -/

/-- The layer at height z with the given base of the bottom layer (R3). -/
def layerAt (z : Nat) : Nat → List Layer → Option Layer
  | _, [] => none
  | base, l :: above => if z < base + l.thickness then (if base ≤ z then some l else none)
      else layerAt z (base + l.thickness) above

/-- The sum of the layer thicknesses (R1). -/
def stackTop (layers : List Layer) : Nat := (layers.map Layer.thickness).sum

/-- The grades of the crossed layers of the interval [a, b), each once; the layers stand on `base` (R4). -/
def crossedFrom (a b : Nat) : Nat → List Layer → List Nat
  | _, [] => []
  | base, l :: above =>
    let higher := crossedFrom a b (base + l.thickness) above
    if a < base + l.thickness ∧ base < b ∧ l.grade ∉ higher then l.grade :: higher else higher

/-- The grades of the interval [a, b); an empty interval has none (R4). -/
def crossedGrades (layers : List Layer) (a b : Nat) : List Nat :=
  if a < b then crossedFrom a b 0 layers else []

/-! ### Cells -/

/-- The address of a cell in the cut map. Log entry 11. -/
def CellRef.address (c : CellRef) : Nat := 256 * c.row + c.column

/-- The cell of a plan point (R9). -/
def cellOf (b : BlockRecord) (p : Point) : CellRef := ⟨p.x.toNat / b.pitch, p.y.toNat / b.pitch⟩

/-- A cell of the map (R5). -/
def CellRef.inMap (b : BlockRecord) (c : CellRef) : Bool := c.column < b.columns && c.row < b.rows

/-- A point is in the block (R9). -/
def inBlock (b : BlockRecord) (p : Point) : Bool := (cellOf b p).inMap b

/-! ### Paths -/

/-- A path cell with its path height (R40, R41). -/
structure PathCell where
  cell : CellRef
  height : Nat
  deriving DecidableEq, Repr

/-- The path length n (R39). -/
def pathLength (b : BlockRecord) (st : Stroke) : Nat :=
  let c0 := cellOf b st.start
  let c1 := cellOf b st.finish
  max ((c1.column : Int) - c0.column).natAbs ((c1.row : Int) - c0.row).natAbs

/-- A coordinate after i of n steps from a to b: a + round(i · (b − a) / n), and a when n = 0 (R40, R41). -/
def along (a b i n : Nat) : Nat := ((a : Int) + roundDiv (i * ((b : Int) - a)) n).toNat

/-- Path cell i with its height (R40, R41). -/
def pathCell (b : BlockRecord) (st : Stroke) (i : Nat) : PathCell :=
  let c0 := cellOf b st.start
  let c1 := cellOf b st.finish
  let n := pathLength b st
  ⟨⟨along c0.column c1.column i n, along c0.row c1.row i n⟩, along st.start.z.toNat st.finish.z.toNat i n⟩

/-- The path cells 0 to n (R40). -/
def path (b : BlockRecord) (st : Stroke) : List PathCell :=
  (List.range (pathLength b st + 1)).map (pathCell b st)

/-- The stroke's deepest height (R41, R73). -/
def deepest (st : Stroke) : Nat := min st.start.z.toNat st.finish.z.toNat

/-! ### Footprints -/

/-- Two coordinates differ by at most g (R43). -/
def near (g a b : Nat) : Bool := a ≤ b + g && b ≤ a + g

/-- The footprint of a stroke for guard radius g, clipped to the map, each cell once, row by row (R43). -/
def footprint (b : BlockRecord) (st : Stroke) (g : Nat) : List CellRef :=
  let cells := (path b st).map PathCell.cell
  (List.range b.rows).flatMap fun r =>
    let beside := cells.filter fun p => near g p.row r
    if beside.isEmpty then []
    else ((List.range b.columns).filter fun c => beside.any fun p => near g p.column c).map fun c => ⟨c, r⟩

/-- Two sets of cells share a cell (R53). -/
def meets (xs ys : List CellRef) : Bool := xs.any fun x => ys.contains x

end Sys2Proof.Machine
end

