-- ==== Sys2Proof/Machine/Ops.lean ====
section
/-! DEFINITION. The named operations over the state that the commands share: heads, cut map, claims, wait list,
occasions, drive transmit queue, replies, fault entry, the outbound arbiter, and how a command is taken. -/

namespace Sys2Proof.Machine

/-! ### Heads -/

/-- The four heads in head-number order. -/
def allHeads : List Head := [0, 1, 2, 3]

/-- The record of a head. -/
def State.head (s : State) (h : Head) : HeadRecord := s.heads.get h

/-- Replaces the record of a head. -/
def State.setHead (h : Head) (hd : HeadRecord) (s : State) : State := s.withHeads (s.heads.set h.val hd h.isLt)

/-- Changes the record of a head. -/
def State.modHead (h : Head) (f : HeadRecord → HeadRecord) (s : State) : State := s.setHead h (f (s.head h))

/-- Some head has a stroke in flight (R14, R19, R163). -/
def State.anyInFlight (s : State) : Bool := s.heads.toList.any fun hd => !hd.inFlight.isEmpty

/-- The issue number of the oldest record, or none (R131). -/
def HeadRecord.oldestIssue (hd : HeadRecord) : Option Byte := hd.inFlight.head?.map InFlight.issue

/-! ### The cut map -/

/-- The cell as the initialisation visit leaves it (R16). -/
def Cell.fresh (top : Nat) : Cell := ⟨top, 0, 0, none, 0, false⟩

/-- The cell at an address; an unlisted one is as the visit left it (R16). Log entry 11. -/
def CutMap.read (top : Nat) : CutMap → Nat → Cell
  | [], _ => .fresh top
  | (a, c) :: rest, k => if a = k then c else CutMap.read top rest k

/-- Writes the cell at an address and keeps the canonical form. -/
def CutMap.write (top : Nat) (k : Nat) (c : Cell) : CutMap → CutMap
  | [] => if c = .fresh top then [] else [(k, c)]
  | (a, c0) :: rest =>
    if k < a then (if c = .fresh top then (a, c0) :: rest else (k, c) :: (a, c0) :: rest)
    else if k = a then (if c = .fresh top then rest else (k, c) :: rest)
    else (a, c0) :: CutMap.write top k c rest

/-- The canonical form of a cut map: addresses strictly rising, no entry equal to an unlisted cell. -/
abbrev CutMap.wf (top : Nat) (m : CutMap) : Prop :=
  (m.map Prod.fst).Pairwise (· < ·) ∧ ∀ e ∈ m, e.2 ≠ Cell.fresh top

/-- Changes the cell at an address. -/
def CutMap.modify (top : Nat) (f : Cell → Cell) (k : Nat) (m : CutMap) : CutMap :=
  m.write top k (f (m.read top k))

/-- Changes each of a list of cells, one after another. -/
def CutMap.modifyAll (top : Nat) (f : Cell → Cell) (refs : List CellRef) (m : CutMap) : CutMap :=
  refs.foldl (fun m c => m.modify top f c.address) m

/-- The cell record at a column and row of the map (R5). -/
def State.cell (s : State) (c : CellRef) : Cell := CutMap.read s.block.top s.cells c.address

/-- Changes each of a list of cells of the map. -/
def State.modCells (f : Cell → Cell) (refs : List CellRef) (s : State) : State :=
  s.withCells (CutMap.modifyAll s.block.top f refs s.cells)

/-! ### Occasions and the wait list -/

/-- An occasion of evaluation is raised; while the block is INITIALISING it is not kept (R56, R60 to R62). -/
def State.raiseOccasion (o : Occasion) (s : State) : State :=
  if s.block.state = .initialising then s else s.withOccasions (s.occasions ++ [o])

/-- A head stands in the wait list (R50). -/
def State.waits (s : State) (h : Head) : Bool := s.waitList.any fun e => e.head == h

/-- A head's entry leaves the wait list with its footprint (R52). -/
def State.dropWait (h : Head) (s : State) : State := s.withWaitList (s.waitList.filter fun e => e.head != h)

/-- An entry removed for another reason than the issue of its stroke brings a pass of the other heads (R52, R61). -/
def State.leaveWait (h : Head) (s : State) : State :=
  if s.waits h then (s.dropWait h).raiseOccasion (.pass (some h)) else s

/-- A wait on CLAIM or YIELD is recorded: a new entry at the back, or the old entry with the new footprint (R51). -/
def State.recordWait (h : Head) (fp : List CellRef) (s : State) : State :=
  if s.waits h then s.withWaitList (s.waitList.map fun e => if e.head = h then { e with footprint := fp } else e)
  else s.withWaitList (s.waitList ++ [⟨h, fp⟩])

/-! ### Queues -/

/-- Every queued stroke of a head is removed, and its wait order with them (R33, R52). -/
def State.flush (h : Head) (s : State) : State := (s.modHead h fun hd => { hd with queue := [] }).leaveWait h

/-- Every stroke queue is flushed (R15, R20). -/
def State.flushAll (s : State) : State := allHeads.foldl (fun s h => s.flush h) s

/-- The number of queued strokes of the four heads (R15). -/
def State.queuedStrokes (s : State) : Nat := (s.heads.toList.map fun hd => hd.queue.length).sum

/-! ### The drive transmit queue -/

/-- A frame joins the back of the drive transmit queue (R88). -/
def State.queueDrive (f : DriveFrame) (s : State) : State := s.withDrive { s.drive with queue := s.drive.queue ++ [f] }

/-- The frame is the ISSUE frame of a head's stroke (R88). -/
def DriveFrame.isIssueOf (h : Head) (issue : Byte) : DriveFrame → Bool
  | .issue h' issue' _ _ _ _ _ _ => h' == h && issue' == issue
  | .halt _ => false

/-- The ISSUE frame of a record that leaves is removed from the queue if it still waits (R88). -/
def State.withdrawIssue (h : Head) (issue : Byte) (s : State) : State :=
  s.withDrive { s.drive with queue := s.drive.queue.filter fun f => !f.isIssueOf h issue }

/-- Head control asks the drive port to halt a head (R89). Log entry 14. -/
def State.requestHalt (h : Head) (s : State) : State :=
  if (s.head h).haltOutstanding then s
  else
    let queued := if s.drive.queue.contains (.halt h) then s else s.queueDrive (.halt h)
    if (s.head h).inFlight.isEmpty then queued
    else queued.modHead h fun hd => { hd with haltOutstanding := true }

/-! ### Replies -/

/-- The REPLY to the command in the slot goes to the reply slot (R157, R158). -/
def State.answer (status : Status) (results : Results) (s : State) : State :=
  match s.mgmt.slot with
  | none => s
  | some c =>
    match c.header?, c.code? with
    | some hdr, some code =>
      s.withOut { s.out with replySlot := some ⟨hdr.seq, code, status, results⟩ }
    | _, _ => s

/-- A REPLY whose status is a refusal carries no results (R157). -/
def State.refuse (status : Status) (s : State) : State := s.answer status .none

/-! ### Claims -/

/-- A claim of head h is taken on a cell (R46). -/
def Cell.claimBy (h : Head) (c : Cell) : Cell := { c with owner := some h, count := c.count + 1 }

/-- A claim on a cell is released; at count 0 the owner becomes none (R47). -/
def Cell.release (c : Cell) : Cell :=
  { c with count := c.count - 1, owner := if c.count - 1 = 0 then none else c.owner }

/-- A cell is claimed by a head other than h (R45, R48). -/
def Cell.claimedByOther (h : Head) (c : Cell) : Bool :=
  match c.owner with
  | none => false
  | some g => g != h && 0 < c.count

/-- The footprint of an in-flight record, formed from its stroke and its copied guard (R44). -/
def State.recordFootprint (s : State) (r : InFlight) : List CellRef := footprint s.block r.stroke r.guard

/-- The claims of a record's whole footprint are released, which brings a pass of every head (R47, R61). -/
def State.releaseClaims (r : InFlight) (s : State) : State :=
  (s.modCells Cell.release (s.recordFootprint r)).raiseOccasion (.pass none)

/-! ### The in-flight list and its timers -/

/-- The nominal time D of a stroke at its rated feed (R113). -/
def nominalTime (r : InFlight) : Nat :=
  let dx := ((r.stroke.finish.x.toNat : Int) - r.stroke.start.x.toNat).natAbs
  let dy := ((r.stroke.finish.y.toNat : Int) - r.stroke.start.y.toNat).natAbs
  ceilDiv (1000 * (dx + dy)) r.ratedFeed

/-- The overdue limit of a record under a head's timer settings (R113). -/
def overdueLimit (t : TimerSettings) (r : InFlight) : Nat := ceilDiv (nominalTime r * t.factor) 4 + t.allowance

/-- The oldest record of the list has just become so: its overdue limit is filled and, outside FAULT, the overdue
timer starts (R86, R113, R114). -/
def HeadRecord.startOldest (hd : HeadRecord) : HeadRecord :=
  match hd.inFlight with
  | [] => hd
  | r :: rest =>
    { hd with
      inFlight := { r with overdueLimit := some (overdueLimit hd.timerSettings r) } :: rest
      overdueRunning := hd.state != .fault }

/-- A record joins the back of the list; into an empty list it starts both timers (R86, R112 to R114). -/
def HeadRecord.append (r : InFlight) (hd : HeadRecord) : HeadRecord :=
  match hd.inFlight with
  | [] => ({ hd with inFlight := [r], gapTimer := .running hd.timerSettings.gapLimit }).startOldest
  | _ :: _ => { hd with inFlight := hd.inFlight ++ [r] }

/-- The oldest record leaves the list; its overdue timer stops, and starts for the next one (R86, R114). -/
def HeadRecord.removeOldest (hd : HeadRecord) : HeadRecord :=
  ({ hd with inFlight := hd.inFlight.tail, overdueRunning := false }).startOldest

/-- A sign of life of a head that is not OFF restarts its status-gap timer while it runs, with the present gap
limit (R97, R98, R112). -/
def HeadRecord.signOfLife (hd : HeadRecord) : HeadRecord :=
  match hd.state, hd.gapTimer with
  | .off, _ | _, .stopped => hd
  | _, .running _ => { hd with gapTimer := .running hd.timerSettings.gapLimit }

/-- The notice of a record that leaves the list, when it holds a reservation, joins the done queue (R96). -/
def State.notice (r : InFlight) (outcome : StrokeOutcome) (cells : Option Nat) (s : State) : State :=
  if r.reserved then
    s.withOut { s.out with
      notices := s.out.notices ++ [⟨⟨r.stroke.head, r.issue, r.stroke.tag, outcome, cells, r.ratedFeed⟩, false⟩] }
  else s

/-! ### Fault entry -/

/-- An owed hold REPLY is sent with the given status and results, and the debt ends (R127). -/
def State.payHold (h : Head) (status : Status) (results : Results) (s : State) : State :=
  if (s.head h).holdReplyOwed then
    (s.modHead h fun hd => { hd with holdReplyOwed := false }).answer status results
  else s

/-- Fault entry of a head, in the order of R131. -/
def State.enterFault (h : Head) (cause : FaultCause) (issue : Option Byte) (code : Byte) (s : State) : State :=
  let latched := s.modHead h fun hd =>
    { hd with latch := ⟨some cause, issue, code⟩, state := .fault, holdCause := none }
  let halted := latched.requestHalt h
  let stopped := halted.modHead h fun hd => { hd with gapTimer := .stopped, overdueRunning := false }
  let alone := stopped.leaveWait h
  let paid := alone.payHold h .faulted (.holdFaulted cause)
  paid.raise (.ofHead .headFault h) (.headFault cause issue code)

/-- A fault handed to a head already in FAULT (R132). -/
def State.furtherFault (h : Head) (s : State) : State :=
  s.modHead h fun hd => { hd with furtherFaults := min 15 (hd.furtherFaults + 1) }

/-- A fault is handed to head control; a head in OFF takes none (R131, R132, R134). -/
def State.handFault (h : Head) (cause : FaultCause) (issue : Option Byte) (code : Byte) (s : State) : State :=
  match (s.head h).state with
  | .off => s
  | .fault => s.furtherFault h
  | .ready | .cutting | .held => s.enterFault h cause issue code

/-! ### Stale reports -/

/-- A stale report is dropped and recorded (R97). -/
def State.stale (h : Head) (issue : Byte) (kind : ReportKind) (s : State) : State :=
  s.raise (.ofPart .staleReport) (.staleReport h issue kind)

/-! ### The transmitters -/

/-- A HEAD_FAULT slot (R173). -/
def EventSlot.isHeadFault (e : EventSlot) : Bool :=
  match e.cls with
  | .ofHead .headFault _ => true
  | .ofHead .strokeRefused _ | .ofHead .queueLow _ | .ofHead .queueOverflow _ | .ofHead .derateChange _
  | .ofPart _ => false

/-- A frame is placed on the line transmitter. -/
def State.place (frame : LineFrame) (s : State) : State :=
  (s.withOut { s.out with tx := some ⟨frame, s.fresh⟩ }).withFresh (s.fresh + 1)

/-- The EVENT frame of a pending slot is placed, and the slot is being sent (R171). -/
def State.placeEvent (e : EventSlot) (s : State) : State :=
  (s.withOut { s.out with
    events := s.out.events.map fun x => if x.cls == e.cls then { x with sending := true } else x }).place
    (.event e.cls e.first s.mgmt.jobTag)

/-- The DONE frame of the oldest queued notice is placed (R169). -/
def State.placeDone (n : QueuedNotice) (rest : List QueuedNotice) (s : State) : State :=
  (s.withOut { s.out with notices := { n with sending := true } :: rest }).place (.done n.notice s.mgmt.jobTag)

/-- The outbound arbiter: when the line transmitter is free it places the first frame of R173's order, which is a
HEAD_FAULT slot, the REPLY, the oldest queued notice, any other slot. -/
def State.arbitrate (s : State) : State :=
  if s.out.tx.isSome then s
  else match s.out.events.find? fun e => e.isHeadFault && !e.sending with
    | some e => s.placeEvent e
    | none =>
      match s.out.replySlot with
      | some r => s.place (.reply r)
      | none =>
        match s.out.notices with
        | n :: rest => s.placeDone n rest
        | [] =>
          match s.out.events.find? fun e => !e.sending with
          | some e => s.placeEvent e
          | none => s

/-- When the drive transmitter is free it sends the frame at the front of the drive transmit queue (R88). -/
def State.startDrive (s : State) : State :=
  match s.drive.tx, s.drive.queue with
  | none, f :: rest => s.withDrive ⟨rest, some f⟩
  | none, [] => s
  | some _, _ => s

/-- What follows at once upon every step: LINE HOLD follows the state, and each free transmitter takes its next
frame (R88, R120, R173). Log entry 6. -/
def settle (s : State) : State := s.driveLineHold.startDrive.arbitrate

/-! ### Taking a command -/

/-- A command of the running part. While RESET is low the part takes nothing (R186). Log entry 8. -/
def act (f : State → State) (s : State) : Result :=
  if s.pins.resetLow then .next s else .next (settle (f s))

/-- A MANAGE frame meets the command slot: an occupied slot drops it with MGMT_OVERRUN (R153, R155), an empty
one takes it, the operand length is tested (R156), and the owning unit carries it out. -/
def manageTo {α : Type} (c : Instr) (hdr : Header) (ops : Operands α) (carryOut : α → State → State)
    (s : State) : State :=
  match s.mgmt.slot with
  | some _ => s.raise (.ofPart .mgmtOverrun) (.mgmtOverrun (c.code?.getD 0) hdr.seq)
  | none =>
    let taken := s.withMgmt { s.mgmt with slot := some c }
    match ops with
    | .wrongLength => taken.refuse .badOperand
    | .given a => carryOut a taken

/-- A MANAGE command of the running part. -/
def manage {α : Type} (c : Instr) (hdr : Header) (ops : Operands α) (carryOut : α → State → State)
    (s : State) : Result :=
  act (manageTo c hdr ops carryOut) s

end Sys2Proof.Machine
end

