-- ==== Sys2Proof/Machine/Admission.lean ====
section
/-! DEFINITION. The admission unit (chapters 03 and 04): the admission checks, the rating of the feed, waits,
refusals and issues, one evaluation and one pass. -/

namespace Sys2Proof.Machine

/-! ### The rating -/

/-- What the rating gives a stroke: its rated feed and, for a CUT, the dominant grade with its drag window (R76, R77). -/
structure Rating where
  feed : Nat
  dominant : Option Nat
  window : Option DragWindow
  deriving DecidableEq, Repr

/-- The entry of a grade number in the grade table (R10); a number above 15, which no layer carries, is not set. -/
def gradeEntry (table : Vector GradeEntry 16) (g : Nat) : GradeEntry := table.toList.getD g .unset

/-- The grades of a path cell for a deepest height: grade 0 alone when the cell is open, else the grades of the
interval up to the kerf floor (R73). -/
def cellGrades (b : BlockRecord) (kerfFloor zd : Nat) : List Nat :=
  if kerfFloor ≤ zd ∨ b.top ≤ zd then [0] else crossedGrades b.layers zd kerfFloor

/-- The better candidate for the dominant grade: the smaller bite, and the lower number among equal bites (R74). -/
def dominates (table : Vector GradeEntry 16) (g best : Nat) : Bool :=
  (gradeEntry table g).bite < (gradeEntry table best).bite ||
    ((gradeEntry table g).bite == (gradeEntry table best).bite && g < best)

/-- The dominant grade among the grades a stroke meets (R74). A stroke meets at least one grade; the empty list
stands for open kerf (log entry 16). -/
def dominantGrade (table : Vector GradeEntry 16) : List Nat → Nat
  | [] => 0
  | g :: gs => gs.foldl (fun best g => if dominates table g best then g else best) g

/-- The derate percentage of a derate level (R76). -/
def deratePercent : Nat → Nat
  | 0 => 100
  | 1 => 75
  | 2 => 50
  | _ => 25

/-- The feed cap of a CUT stroke (R76). -/
def feedCap (bite rate derate : Nat) : Nat := bite * rate * deratePercent derate / 10000

/-- A zone's flag is set in a zone set or a protected set (R69, R141). -/
def zoneIn (zones : BitVec 16) (zone : Nat) : Bool := zones.getLsbD zone

/-- The grades that the rating of a CUT stroke uses, path cell by path cell (R73, R75). -/
def State.gradesMet (s : State) (st : Stroke) : List Nat :=
  (path s.block st).flatMap fun p => cellGrades s.block (s.cell p.cell).kerfFloor (deepest st)

/-- Checks 9 to 12 of a CUT stroke, with its rating (R63, R69, R70, R73 to R76). -/
def State.rateCut (s : State) (h : Head) (st : Stroke) : Except RefusalReason Rating :=
  let hd := s.head h
  let cells := path s.block st
  let met := s.gradesMet st
  let dominant := dominantGrade s.grades met
  let entry := gradeEntry s.grades dominant
  let feed := min st.feed.toNat (feedCap entry.bite hd.settings.rate hd.monitor.derate)
  if cells.any fun p => !zoneIn hd.settings.zoneSet (s.cell p.cell).zone then .error .zoneDenied
  else if cells.any fun p => p.height < (s.cell p.cell).floorLimit then .error .belowFloor
  else if met.any fun g => !(gradeEntry s.grades g).set then .error .gradeUnset
  else if feed = 0 then .error .feedZero
  else .ok ⟨feed, some dominant, some ⟨entry.dragLow, entry.dragHigh⟩⟩

/-- Checks 8 and 12 of a TRAVEL stroke, with its rating (R63, R68, R77). -/
def State.rateTravel (s : State) (h : Head) (st : Stroke) : Except RefusalReason Rating :=
  let hd := s.head h
  let feed := min st.feed.toNat hd.settings.travelMax
  if deepest st < s.block.top + hd.settings.clearance then .error .badTravel
  else if feed = 0 then .error .feedZero
  else .ok ⟨feed, none, none⟩

/-- Checks 8 to 12 for a stroke of either kind (R63). -/
def State.rate (s : State) (h : Head) (st : Stroke) : Except RefusalReason Rating :=
  match st.kind with
  | .cut => s.rateCut h st
  | .travel => s.rateTravel h st

/-! ### The admission checks -/

/-- How an evaluation ends (R59): a wait on checks 1, 2, 3 or 13, a wait on CLAIM or YIELD with the footprint
formed, a refusal, or an issue with the rating and footprint. -/
inductive Verdict
  | waitNoBlock
  | waitHead
  | waitInFlight
  | waitNotice
  | waitClaim (footprint : List CellRef)
  | waitYield (footprint : List CellRef)
  | refuse (reason : RefusalReason)
  | issue (rating : Rating) (footprint : List CellRef)
  deriving DecidableEq, Repr

/-- Check 1: the block is LOADED and the unload visit is not running (R63). -/
def State.blockReady (s : State) : Bool := s.block.state == .loaded && !s.block.unloadVisit

/-- The head states in which a stroke may go (R63, check 2). -/
def HeadState.admits : HeadState → Bool
  | .ready | .cutting => true
  | .off | .held | .fault => false

/-- The older waiters of a head: the entries ahead of its own, or all of them when it has none (R53). -/
def State.olderWaiters (s : State) (h : Head) : List WaitEntry := s.waitList.takeWhile fun e => e.head != h

/-- Checks 13 to 15 and the issue (R63, R78, R79). -/
def State.clearToIssue (s : State) (h : Head) (q : QueuedStroke) (rating : Rating) : Verdict :=
  let fp := footprint s.block q.stroke (s.head h).settings.guard
  if q.notify && 16 ≤ s.slotsInUse then .waitNotice
  else if fp.any fun c => (s.cell c).claimedByOther h then .waitClaim fp
  else if (s.olderWaiters h).any fun e => meets fp e.footprint then .waitYield fp
  else .issue rating fp

/-- The admission checks of a head's front stroke in the order of R63's table. -/
def State.verdict (s : State) (h : Head) (q : QueuedStroke) : Verdict :=
  let hd := s.head h
  let st := q.stroke
  if !s.blockReady then .waitNoBlock
  else if !hd.state.admits then .waitHead
  else if 2 ≤ hd.inFlight.length then .waitInFlight
  else if !hd.chainEnd.valid then .refuse .noPosition
  else if st.start ≠ hd.chainEnd.point then .refuse .discontinuous
  else if !(inBlock s.block st.start && inBlock s.block st.finish) then .refuse .outOfBlock
  else if 255 < pathLength s.block st then .refuse .tooLong
  else match s.rate h st with
    | .error reason => .refuse reason
    | .ok rating => s.clearToIssue h q rating

/-! ### Refusal and issue -/

/-- A refusal of the front stroke, in the order of R71; with the wait entry or without, it brings one pass of
the other heads (R61). -/
def State.refuseStroke (h : Head) (q : QueuedStroke) (reason : RefusalReason) (s : State) : State :=
  let removed := s.modHead h fun hd =>
    { hd with queue := hd.queue.tail, state := .held, holdCause := some .refused }
  ((removed.dropWait h).raise (.ofHead .strokeRefused h) (.strokeRefused q.stroke.tag reason)).raiseOccasion
    (.pass (some h))

/-- The in-flight record built at issue (R81). -/
def buildRecord (s : State) (h : Head) (q : QueuedStroke) (rating : Rating) : InFlight :=
  let hd := s.head h
  { issue := hd.issueCounter
    stroke := q.stroke
    notify := q.notify
    pathLength := pathLength s.block q.stroke
    guard := hd.settings.guard
    dominant := rating.dominant
    window := rating.window
    ratedFeed := rating.feed
    rate := hd.settings.rate
    reserved := q.notify
    sawHigh := false
    overdueLimit := none }

/-- The ISSUE frame of a record (R88). -/
def InFlight.issueFrame (h : Head) (r : InFlight) : DriveFrame :=
  .issue h r.issue r.stroke.kind r.stroke.start r.stroke.finish r.ratedFeed r.rate r.pathLength

/-- The depth falls from the low-water mark to one below it (R32). -/
def crossesLowWater (mark depth : Nat) : Bool := mark ≤ depth && depth - 1 < mark

/-- QUEUE_LOW is tested as the front stroke of a head is issued from a queue of the given depth (R32). -/
def State.testQueueLow (h : Head) (r : InFlight) (depth : Nat) (s : State) : State :=
  if crossesLowWater (s.head h).settings.lowWater depth then
    s.raise (.ofHead .queueLow h) (.queueLow r.stroke.tag r.issue)
  else s

/-- A head in READY enters CUTTING, which is an occasion for that head alone (R60, R80, R130). -/
def State.enterCutting (h : Head) (s : State) : State :=
  if (s.head h).state = .ready then
    (s.modHead h fun hd => { hd with state := .cutting }).raiseOccasion (.one h)
  else s

/-- The issue of the front stroke, in the order of R80. -/
def State.issueStroke (h : Head) (q : QueuedStroke) (rating : Rating) (fp : List CellRef) (s : State) : State :=
  let r := buildRecord s h q rating
  let claimed := s.modCells (Cell.claimBy h) fp
  let taken := claimed.modHead h fun hd =>
    { hd with
      issueCounter := hd.issueCounter + 1
      queue := hd.queue.tail
      chainEnd := ⟨q.stroke.finish, true⟩ }
  let counted := taken.testQueueLow h r (s.head h).queue.length
  let listed := (counted.dropWait h).modHead h (HeadRecord.append r)
  (listed.queueDrive (r.issueFrame h)).enterCutting h

/-! ### Evaluation and pass -/

/-- One evaluation of a head (R59); a head with an empty queue has no result. -/
def State.evaluate (h : Head) (s : State) : State :=
  match (s.head h).queue with
  | [] => s
  | q :: _ =>
    match s.verdict h q with
    | .waitNoBlock | .waitHead | .waitInFlight | .waitNotice => s
    | .waitClaim fp | .waitYield fp => s.recordWait h fp
    | .refuse reason => s.refuseStroke h q reason
    | .issue rating fp => s.issueStroke h q rating fp

/-- The order of a pass: the heads of the wait list, oldest first, then the others in head-number order, without
the head the pass leaves out (R55, R61). -/
def State.passOrder (s : State) (except : Option Head) : List Head :=
  let waiting := s.waitList.map WaitEntry.head
  (waiting ++ allHeads.filter fun h => !waiting.contains h).filter fun h => some h != except

/-- A pass: each head is evaluated once, in the order fixed as the pass begins (R55, R56). -/
def State.makePass (except : Option Head) (s : State) : State :=
  (s.passOrder except).foldl (fun s h => s.evaluate h) s

/-- EVALUATION of a head: taken when the front occasion is one of that head alone (R60, log entry 1). -/
def evaluationEffect (h : Head) (s : State) : State :=
  match s.occasions with
  | .one g :: rest => if g = h then (s.withOccasions rest).evaluate h else s
  | .pass _ :: _ => s
  | [] => s

/-- PASS: taken when the front occasion is a pass (R55, R61, log entry 1). -/
def passEffect (s : State) : State :=
  match s.occasions with
  | .pass except :: rest => (s.withOccasions rest).makePass except
  | .one _ :: _ => s
  | [] => s

/-- EVALUATION (R59). -/
def execEvaluation (h : Head) (s : State) : Result := act (evaluationEffect h) s

/-- PASS (R55). -/
def execPass (s : State) : Result := act passEffect s

end Sys2Proof.Machine
end

