-- ==== Sys2Proof/Machine/Block.lean ====
section
/-! DEFINITION. The block, the cut map and the grade table (chapter 01): LOAD_BLOCK, UNLOAD_BLOCK, the ends of
their visits, WRITE_GRADE. -/

namespace Sys2Proof.Machine

/-- The operands of a LOAD_BLOCK pass its tests (R14). -/
def loadPasses (ops : LoadBlockOps) : Bool :=
  inRange 1 256 ops.columns.toNat && inRange 1 192 ops.rows.toNat && inRange 40 160 ops.pitch.toNat &&
    inRange 1 8 ops.layers.length &&
    (ops.layers.all fun l => inRange 1 2400 l.thickness.toNat && inRange 1 15 l.grade.toNat) &&
    (ops.layers.map fun l => l.thickness.toNat).sum ≤ 2400

/-- The block record that a LOAD_BLOCK writes (R15). -/
def loadRecord (ops : LoadBlockOps) : BlockRecord :=
  let layers := ops.layers.map fun l => ⟨l.thickness.toNat, l.grade.toNat⟩
  { state := .initialising
    columns := ops.columns.toNat
    rows := ops.rows.toNat
    pitch := ops.pitch.toNat
    layers
    top := stackTop layers
    unloadVisit := false }

/-- The new map under a new block record; occasions still standing are not kept (R15, R62, log entry 12). -/
def State.beginBlock (b : BlockRecord) (s : State) : State := ((s.withBlock b).withCells []).withOccasions []

/-- LOAD_BLOCK carried out: operand tests, the in-flight test, then flush, block record and visit (R14, R15). -/
def loadBlockEffect (ops : LoadBlockOps) (s : State) : State :=
  if !loadPasses ops then s.refuse .badOperand
  else if s.anyInFlight then s.refuse .busyCutting
  else (s.flushAll.beginBlock (loadRecord ops)).withMgmt { s.mgmt with loadFlushed := s.queuedStrokes }

/-- LOAD_BLOCK (R14). -/
def execLoadBlock (hdr : Header) (ops : Operands LoadBlockOps) (s : State) : Result :=
  manage (.loadBlock hdr ops) hdr ops loadBlockEffect s

/-- The end of the initialisation visit: LOADED, a pass of every head, the REPLY (R16). -/
def initialisationVisitEndEffect (s : State) : State :=
  match s.block.state with
  | .initialising =>
    ((s.withBlock { s.block with state := .loaded }).raiseOccasion (.pass none)).answer .ok
      (.loadBlock s.block.top s.mgmt.loadFlushed)
  | .noBlock | .loaded => s

/-- INITIALISATION_VISIT_END (R16). -/
def execInitialisationVisitEnd (s : State) : Result := act initialisationVisitEndEffect s

/-- UNLOAD_BLOCK carried out: the block and in-flight tests, then flush and visit (R19, R20). -/
def unloadBlockEffect (_ops : NoOps) (s : State) : State :=
  match s.block.state with
  | .noBlock => s.refuse .noBlock
  | .initialising | .loaded =>
    if s.anyInFlight then s.refuse .busyCutting
    else s.flushAll.withBlock { s.block with unloadVisit := true }

/-- UNLOAD_BLOCK (R19). -/
def execUnloadBlock (hdr : Header) (ops : Operands NoOps) (s : State) : Result :=
  manage (.unloadBlock hdr ops) hdr ops unloadBlockEffect s

/-- The cells whose kerf floor is below T; an unlisted cell is uncut (R6, R20). -/
def State.cutCells (s : State) : Nat := s.cells.countP fun e => e.2.kerfFloor < s.block.top

/-- The cells whose unsure mark is set (R7, R20). -/
def State.unsureCells (s : State) : Nat := s.cells.countP fun e => e.2.unsure

/-- The end of the unload visit: the map is discarded, NO_BLOCK, the REPLY with the counts (R20). -/
def unloadVisitEndEffect (s : State) : State :=
  if s.block.unloadVisit then
    ((s.withBlock .reset).withCells []).answer .ok (.unloadBlock s.cutCells s.unsureCells)
  else s

/-- UNLOAD_VISIT_END (R20). -/
def execUnloadVisitEnd (s : State) : Result := act unloadVisitEndEffect s

/-- The operands of a WRITE_GRADE pass its tests (R12). -/
def gradePasses (ops : WriteGradeOps) : Bool :=
  ops.grade.toNat ≤ 15 &&
    (if ops.clear then ops.grade != 0
     else ops.bite != 0 && ops.dragLow.toNat ≤ ops.dragHigh.toNat && ops.dragHigh.toNat ≤ 1023)

/-- The entry that a WRITE_GRADE puts into the table (R12). -/
def gradeWritten (ops : WriteGradeOps) : GradeEntry :=
  if ops.clear then .unset else ⟨true, ops.bite.toNat, ops.dragLow.toNat, ops.dragHigh.toNat⟩

/-- WRITE_GRADE carried out (R12, R13). -/
def writeGradeEffect (ops : WriteGradeOps) (s : State) : State :=
  if hg : ops.grade.toNat < 16 then
    if gradePasses ops then
      ((s.withGrades (s.grades.set ops.grade.toNat (gradeWritten ops))).raiseOccasion (.pass none)).answer .ok
        (.writeGrade s.grades[ops.grade.toNat])
    else s.refuse .badOperand
  else s.refuse .badOperand

/-- WRITE_GRADE (R12). -/
def execWriteGrade (hdr : Header) (ops : Operands WriteGradeOps) (s : State) : Result :=
  manage (.writeGrade hdr ops) hdr ops writeGradeEffect s

end Sys2Proof.Machine
end

