-- ==== Sys2Proof/Machine/Drive.lean ====
section
/-! DEFINITION. The drive port (chapter 05): matching, commit, completion and halting, stale reports,
DRIVE_FAULT, and the drive transmitter. -/

namespace Sys2Proof.Machine

/-- The commit of a cell: the smaller of its kerf floor and the path height; the unsure mark stays (R91). -/
def Cell.commit (z : Nat) (c : Cell) : Cell := { c with kerfFloor := min c.kerfFloor z }

/-- The commit of path cells 0 to k − 1 of a CUT stroke; a TRAVEL stroke commits nothing (R91). -/
def State.commit (r : InFlight) (k : Nat) (s : State) : State :=
  match r.stroke.kind with
  | .travel => s
  | .cut => ((path s.block r.stroke).take k).foldl (fun s p => s.modCells (Cell.commit p.height) [p.cell]) s

/-- The derate level of a head changes, which records DERATE_CHANGE (R108). -/
def State.changeDerate (h : Head) (level : Nat) (issue : Byte) (s : State) : State :=
  (s.modHead h fun hd => { hd with monitor := { hd.monitor with derate := level, cleanCount := 0 } }).raise
    (.ofHead .derateChange h) (.derateChange level issue)

/-- The blade monitor is told of a COMPLETE: the step-down (R107). It acts on a head in FAULT too: of R100, by which
a report is taken alike in FAULT, and R117, by which the clean count and the derate level of a head that MACHINE STOP
has faulted keep their values until CLEAR_HEAD, the model follows R100 here (log entry 19). -/
def State.stepDown (h : Head) (r : InFlight) (s : State) : State :=
  let m := (s.head h).monitor
  match r.stroke.kind with
  | .travel => s
  | .cut =>
    if r.sawHigh then s.modHead h fun hd => { hd with monitor := { hd.monitor with cleanCount := 0 } }
    else if m.derate = 0 then s
    else if (s.head h).monitorSettings.stepDownCount ≤ m.cleanCount + 1 then
      s.changeDerate h (m.derate - 1) r.issue
    else s.modHead h fun hd => { hd with monitor := { hd.monitor with cleanCount := m.cleanCount + 1 } }

/-- Head control is told that a head's list has emptied: a CUTTING head enters READY, a HELD head sends an owed
hold REPLY (R95, R127, R130). The halt-outstanding flag is cleared and the status-gap timer stops (R89, R112). -/
def State.listEmptied (h : Head) (s : State) : State :=
  let cleared := s.modHead h fun hd => { hd with haltOutstanding := false, gapTimer := .stopped }
  match (s.head h).state with
  | .cutting => cleared.modHead h fun hd => { hd with state := .ready }
  | .held => cleared.payHold h .ok (.holdHead (s.head h).holdCause (s.head h).reported)
  | .off | .ready | .fault => cleared

/-- The steps that COMPLETE and HALTED share, from the commit to the removal of the record: R92 steps 1 to 5,
R94 steps 1 to 5. An ISSUE frame of the record that still waits is withdrawn (R88). -/
def State.takeReport (h : Head) (r : InFlight) (k : Nat) (reported : Point) (outcome : StrokeOutcome)
    (cells : Option Nat) (s : State) : State :=
  let released := (s.commit r k).releaseClaims r
  let moved := released.modHead h fun hd => { hd with reported := ⟨reported, true⟩ }
  let noticed := (moved.notice r outcome cells).withdrawIssue h r.issue
  noticed.modHead h HeadRecord.removeOldest

/-- The head's list is empty. -/
def State.listEmpty (s : State) (h : Head) : Bool := (s.head h).inFlight.isEmpty

/-- A COMPLETE that matches the oldest record, in the order of R92. -/
def State.takeComplete (h : Head) (r : InFlight) (s : State) : State :=
  let removed := s.takeReport h r (r.pathLength + 1) r.stroke.finish .complete none
  let stepped := removed.stepDown h r
  if stepped.listEmpty h then stepped.listEmptied h else stepped

/-- The chain end of a head whose list a HALTED has emptied becomes the reported position (R35, R94). -/
def HeadRecord.endAtReported (hd : HeadRecord) : HeadRecord := { hd with chainEnd := hd.reported }

/-- A HALTED that matches the oldest record, in the order of R94. -/
def State.takeHalted (h : Head) (r : InFlight) (k : Nat) (stop : Point) (s : State) : State :=
  let removed := s.takeReport h r k stop .halted (some k)
  if removed.listEmpty h then (removed.modHead h HeadRecord.endAtReported).listEmptied h else removed

/-- The oldest record, when a report of the given issue number matches it (R90). -/
def HeadRecord.matching (hd : HeadRecord) (issue : Byte) : Option InFlight :=
  hd.inFlight.head?.filter fun r => r.issue == issue

/-- COMPLETE: a completion or a stale report, and in either case a sign of life (R90, R92, R97, R98). -/
def completeEffect (h : Head) (issue : Byte) (s : State) : State :=
  match (s.head h).matching issue with
  | some r => (s.takeComplete h r).modHead h HeadRecord.signOfLife
  | none => (s.stale h issue .complete).modHead h HeadRecord.signOfLife

/-- COMPLETE (R92). Its end position is not used (R84). -/
def execComplete (h : Head) (issue : Byte) (_endPosition : Point) (s : State) : Result := act (completeEffect h issue) s

/-- The oldest record, when a HALTED with k cells done matches it (R90). -/
def HeadRecord.matchingHalted (hd : HeadRecord) (issue : Byte) (k : Nat) : Option InFlight :=
  (hd.matching issue).filter fun r => k ≤ r.pathLength + 1

/-- HALTED: a completion or a stale report, and in either case a sign of life (R90, R94, R97, R98). -/
def haltedEffect (h : Head) (issue : Byte) (k : Nat) (stop : Point) (s : State) : State :=
  match (s.head h).matchingHalted issue k with
  | some r => (s.takeHalted h r k stop).modHead h HeadRecord.signOfLife
  | none => (s.stale h issue .halted).modHead h HeadRecord.signOfLife

/-- HALTED (R94). -/
def execHalted (h : Head) (issue : Byte) (cellsDone : Word) (stop : Point) (s : State) : Result :=
  act (haltedEffect h issue cellsDone.toNat stop) s

/-- DRIVE_FAULT: stale for a head in OFF, else handed to head control; a code of 0 is a malformed frame (R84,
R97, R99). -/
def driveFaultEffect (h : Head) (issue code : Byte) (s : State) : State :=
  if code = 0 then s.endFrame .drive .malformed
  else if (s.head h).state = .off then s.stale h issue .driveFault
  else s.handFault h .driveFault (some issue) code

/-- DRIVE_FAULT (R99). -/
def execDriveFault (h : Head) (issue code : Byte) (s : State) : Result := act (driveFaultEffect h issue code) s

/-- The last byte of the frame on the drive transmitter has left, and the transmitter is free (R88). -/
def driveFrameSentEffect (s : State) : State := s.withDrive { s.drive with tx := none }

/-- DRIVE_FRAME_SENT (R88). -/
def execDriveFrameSent (s : State) : Result := act driveFrameSentEffect s

end Sys2Proof.Machine
end

