-- ==== Sys2Proof/Machine/HeadControl.lean ====
section
/-! DEFINITION. Head control (chapter 07): SET_HEAD, SET_POSITION, HOLD_HEAD, RELEASE_HEAD, MACHINE STOP and
CLEAR_HEAD. -/

namespace Sys2Proof.Machine

/-! ### SET_HEAD -/

/-- The operands of a SET_HEAD lie in their ranges (R121). -/
def settingsPass (ops : SetHeadOps) : Bool :=
  inRange 0 7 ops.guard.toNat && inRange 10 80 ops.rate.toNat && inRange 1 4095 ops.travelMax.toNat &&
    inRange 0 255 ops.clearance.toNat && inRange 0 31 ops.lowWater.toNat

/-- The six settings that a SET_HEAD carries (R121). -/
def settingsWritten (ops : SetHeadOps) : Settings :=
  ⟨ops.zoneSet, ops.guard.toNat, ops.rate.toNat, ops.travelMax.toNat, ops.clearance.toNat, ops.lowWater.toNat⟩

/-- What a SET_HEAD does to the state of its head (R122). -/
inductive EnableResult
  | refused (status : Status)
  | unchanged
  | entersReady
  | entersOff
  deriving DecidableEq, Repr

/-- The table of R122. -/
def enableResult (hd : HeadRecord) (machineStop enable : Bool) : EnableResult :=
  match hd.state, enable with
  | .off, true => if machineStop then .refused .machineStop else .entersReady
  | .off, false => .unchanged
  | .ready, true | .cutting, true | .held, true => .unchanged
  | .ready, false | .cutting, false | .held, false =>
    if hd.inFlight.isEmpty then .entersOff else .refused .busyCutting
  | .fault, true => .unchanged
  | .fault, false => .refused .state

/-- A head enters OFF: its hold cause becomes none and it loses any wait entry (R52, R122). -/
def State.enterOff (h : Head) (s : State) : State :=
  (s.modHead h fun hd => { hd with state := .off, holdCause := none }).leaveWait h

/-- A SET_HEAD that is taken: the six settings, the pass of every head, and the REPLY (R121, R123). -/
def State.writeSettings (ops : SetHeadOps) (previous : Settings) (s : State) : State :=
  ((s.modHead ops.head fun hd => { hd with settings := settingsWritten ops }).raiseOccasion (.pass none)).answer .ok
    (.setHead (s.head ops.head).state previous)

/-- SET_HEAD carried out (R121 to R123); a head that entered READY is evaluated once more after the pass. -/
def setHeadEffect (ops : SetHeadOps) (s : State) : State :=
  let h := ops.head
  let previous := (s.head h).settings
  if !settingsPass ops then s.refuse .badOperand
  else match enableResult (s.head h) s.pins.machineStop ops.enable with
    | .refused status => s.refuse status
    | .unchanged => s.writeSettings ops previous
    | .entersReady =>
      ((s.modHead h fun hd => { hd with state := .ready }).writeSettings ops previous).raiseOccasion (.one h)
    | .entersOff => (s.enterOff h).writeSettings ops previous

/-- SET_HEAD (R121). -/
def execSetHead (hdr : Header) (ops : Operands SetHeadOps) (s : State) : Result :=
  manage (.setHead hdr ops) hdr ops setHeadEffect s

/-! ### SET_POSITION -/

/-- A head's chain end and reported position both become the point given, valid (R35, R36). -/
def HeadRecord.placeAt (p : Point) (hd : HeadRecord) : HeadRecord :=
  { hd with chainEnd := ⟨p, true⟩, reported := ⟨p, true⟩ }

/-- SET_POSITION carried out (R124). -/
def setPositionEffect (ops : HeadPointOps) (s : State) : State :=
  let hd := s.head ops.head
  if hd.state = .fault then s.refuse .state
  else if !hd.inFlight.isEmpty then s.refuse .busyCutting
  else (s.modHead ops.head (HeadRecord.placeAt ops.point)).answer .ok (.setPosition hd.chainEnd)

/-- SET_POSITION (R124). -/
def execSetPosition (hdr : Header) (ops : Operands HeadPointOps) (s : State) : Result :=
  manage (.setPosition hdr ops) hdr ops setPositionEffect s

/-! ### HOLD_HEAD and RELEASE_HEAD -/

/-- A head enters HELD from READY or CUTTING and loses any wait entry (R52, R125). -/
def State.enterHeld (h : Head) (cause : HoldCause) (s : State) : State :=
  (s.modHead h fun hd => { hd with state := .held, holdCause := some cause }).leaveWait h

/-- The table of R125 for a head that is not in OFF or FAULT; a hard hold brings its halt request (R126). -/
def State.hold (h : Head) (hard : Bool) (s : State) : State :=
  match (s.head h).state, hard with
  | .held, false => s
  | .held, true => (s.modHead h fun hd => { hd with holdCause := some .hard }).requestHalt h
  | _, false => s.enterHeld h .soft
  | _, true => (s.enterHeld h .hard).requestHalt h

/-- The REPLY of a HOLD_HEAD that is taken: at once when nothing is in flight, else owed (R127). -/
def State.oweHold (h : Head) (s : State) : State :=
  if (s.head h).inFlight.isEmpty then s.answer .ok (.holdHead (s.head h).holdCause (s.head h).reported)
  else s.modHead h fun hd => { hd with holdReplyOwed := true }

/-- HOLD_HEAD carried out (R125 to R127). -/
def holdHeadEffect (ops : HoldHeadOps) (s : State) : State :=
  match (s.head ops.head).state with
  | .off | .fault => s.refuse .state
  | .ready | .cutting | .held => (s.hold ops.head ops.hard).oweHold ops.head

/-- HOLD_HEAD (R125). -/
def execHoldHead (hdr : Header) (ops : Operands HoldHeadOps) (s : State) : Result :=
  manage (.holdHead hdr ops) hdr ops holdHeadEffect s

/-- The state a released head enters (R129). -/
def HeadRecord.releasedTo (hd : HeadRecord) : HeadState := if hd.inFlight.isEmpty then .ready else .cutting

/-- RELEASE_HEAD carried out (R129). -/
def releaseHeadEffect (ops : HeadOps) (s : State) : State :=
  let hd := s.head ops.head
  if hd.state = .held then
    ((s.modHead ops.head fun hd => { hd with state := hd.releasedTo, holdCause := none }).raiseOccasion
      (.one ops.head)).answer .ok (.releaseHead hd.releasedTo)
  else s.refuse .state

/-- RELEASE_HEAD (R129). -/
def execReleaseHead (hdr : Header) (ops : Operands HeadOps) (s : State) : Result :=
  manage (.releaseHead hdr ops) hdr ops releaseHeadEffect s

/-! ### MACHINE STOP -/

/-- The input takes a level (R135, R186). -/
def State.setStop (level : Bool) (s : State) : State := s.withPins { s.pins with machineStop := level }

/-- An edge of the input is an occurrence of MACHINE_STOP with the level after it (R135). -/
def State.recordEdge (level : Bool) (s : State) : State := s.raise (.ofPart .machineStop) (.machineStop level)

/-- The assertion hands every head a fault of cause MACHINE_STOP, in head-number order (R134). -/
def State.stopHeads (s : State) : State :=
  allHeads.foldl (fun s h => s.handFault h .machineStop (s.head h).oldestIssue 0) s

/-- MACHINE_STOP_ASSERTED: an edge only when the level was deasserted (R134, R135, log entry 2). -/
def machineStopAssertedEffect (s : State) : State :=
  if s.pins.machineStop then s else ((s.setStop true).stopHeads).recordEdge true

/-- MACHINE_STOP_DEASSERTED: an edge only when the level was asserted (R135, log entry 2). -/
def machineStopDeassertedEffect (s : State) : State :=
  if s.pins.machineStop then (s.setStop false).recordEdge false else s

/-- A level of the MACHINE STOP pin; while RESET is low it is taken without an edge (R135, R186). -/
def takeStop (level : Bool) (edge : State → State) (s : State) : Result :=
  if s.pins.resetLow then .next (s.setStop level) else act edge s

/-- MACHINE_STOP_ASSERTED (R134). -/
def execMachineStopAsserted (s : State) : Result := takeStop true machineStopAssertedEffect s

/-- MACHINE_STOP_DEASSERTED (R135). -/
def execMachineStopDeasserted (s : State) : Result := takeStop false machineStopDeassertedEffect s

/-! ### CLEAR_HEAD -/

/-- The resolution of a path cell: a kerf floor above the path height becomes it, and the cell is unsure (R137). -/
def Cell.resolve (z : Nat) (c : Cell) : Cell :=
  if z < c.kerfFloor then { c with kerfFloor := z, unsure := true } else c

/-- The cells of a CUT stroke are taken as cut to its end; a TRAVEL stroke changes none (R137). -/
def State.resolveCells (r : InFlight) (s : State) : State :=
  match r.stroke.kind with
  | .travel => s
  | .cut => (path s.block r.stroke).foldl (fun s p => s.modCells (Cell.resolve p.height) [p.cell]) s

/-- The cells committed field of an UNRESOLVED notice (R137). -/
def InFlight.resolvedCells (r : InFlight) : Nat :=
  match r.stroke.kind with
  | .cut => r.pathLength + 1
  | .travel => 0

/-- One in-flight record is resolved, in the order of R137. -/
def State.resolve (h : Head) (r : InFlight) (s : State) : State :=
  let released := (s.resolveCells r).releaseClaims r
  let noticed := released.notice r .unresolved (some r.resolvedCells)
  (noticed.withdrawIssue h r.issue).modHead h fun hd => { hd with inFlight := hd.inFlight.tail }

/-- Every in-flight record of a head is resolved, oldest first, and the halt-outstanding flag is cleared (R137). -/
def State.resolveAll (h : Head) (s : State) : State :=
  ((s.head h).inFlight.foldl (fun s r => s.resolve h r) s).modHead h fun hd => { hd with haltOutstanding := false }

/-- The restoring of a cleared head, steps 1 to 5 of R138; both timers are stopped (R117). -/
def HeadRecord.restore (p : Point) (hd : HeadRecord) : HeadRecord :=
  { hd with
    queue := []
    chainEnd := ⟨p, true⟩
    reported := ⟨p, true⟩
    latch := .empty
    furtherFaults := 0
    monitor := .reset
    gapTimer := .stopped
    overdueRunning := false
    state := .ready }

/-- CLEAR_HEAD carried out (R136 to R138). -/
def clearHeadEffect (ops : HeadPointOps) (s : State) : State :=
  let hd := s.head ops.head
  if hd.state ≠ .fault then s.refuse .state
  else if s.pins.machineStop then s.refuse .machineStop
  else
    (((s.resolveAll ops.head).modHead ops.head (HeadRecord.restore ops.point)).answer .ok
      (.clearHead hd.inFlight.length hd.queue.length)).raiseOccasion (.one ops.head)

/-- CLEAR_HEAD (R136). -/
def execClearHead (hdr : Header) (ops : Operands HeadPointOps) (s : State) : Result :=
  manage (.clearHead hdr ops) hdr ops clearHeadEffect s

end Sys2Proof.Machine
end

