-- ==== Sys2Proof/Machine/LineLink.lean ====
section
/-! DEFINITION. The line link and the outbound arbiter (chapter 10): the receivers, dropped frames, the ends of the
three kinds of outbound frame, SET_EVENTS. -/

namespace Sys2Proof.Machine

/-- A signal reaches the receiver of its link (R165); the command of a frame that it ends joins the waiting commands
(log entry 5). While RESET is low both receivers ignore the lines (R186). -/
def State.hear (x : Signal) (s : State) : State :=
  if s.pins.resetLow then s
  else
    let heard := (s.receivers.of x.link).hear x
    (s.withReceivers (s.receivers.put heard.1 x.link)).withPending (s.pending ++ heard.2.toList)

/-- CORRUPT_FRAME (R166): dropped and counted on the counter of the check it failed. -/
def execCorruptFrame (link : Link) (check : FrameCheck) (s : State) : Result :=
  act (State.endFrame link (errorOf check)) s

/-- LENGTH_ABOVE_48 (R165): the frame is abandoned and counted as malformed. -/
def execLengthAbove48 (link : Link) (_length : Byte) (s : State) : Result := act (State.endFrame link .malformed) s

/-- RECEIVE_GAP (R165): the frame is abandoned and counted as malformed. -/
def execReceiveGap (link : Link) (s : State) : Result := act (State.endFrame link .malformed) s

/-- A REPLY is carried in two frames (R181). -/
def Reply.inTwoFrames (r : Reply) : Bool :=
  match r.results with
  | .readStatus _ => true
  | .none | .loadBlock .. | .unloadBlock .. | .writeGrade .. | .setNotifyWindow .. | .flushQueue .. | .setHead ..
  | .setPosition .. | .holdHead .. | .holdFaulted .. | .releaseHead .. | .clearHead .. | .setMonitor ..
  | .setTimers .. | .setPreset .. | .setSource .. | .spanWrite .. | .spanQuery .. | .readCell .. | .setEvents ..
  | .setJobTag .. => false

/-- The line transmitter is free. -/
def State.freeLine (s : State) : State := s.withOut { s.out with tx := none }

/-- The REPLY has left: the reply slot and the command slot empty (R154, R173). -/
def State.replyGone (s : State) : State :=
  (s.withOut { s.out with tx := none, replySlot := none }).withMgmt { s.mgmt with slot := none }

/-- The last byte of a REPLY frame has left: after the first of two frames the second is placed at once, else
the REPLY has left (R154, R181). No REPLY on the transmitter: nothing happens (log entry 2). -/
def replySentEffect (s : State) : State :=
  match s.out.tx with
  | some ⟨.reply r, _⟩ => if r.inTwoFrames then s.place (.statusSecond r) else s.replyGone
  | some ⟨.statusSecond _, _⟩ => s.replyGone
  | some ⟨.done _ _, _⟩ | some ⟨.event _ _ _, _⟩ | none => s

/-- REPLY_SENT (R154). -/
def execReplySent (s : State) : Result := act replySentEffect s

/-- The last byte of a DONE frame has left: its notice is removed, its slot frees and a pass follows (R169); after
a RESET_PART no notice remains to be removed (R174). -/
def doneSentEffect (s : State) : State :=
  match s.out.tx with
  | some ⟨.done _ _, _⟩ =>
    match s.out.notices with
    | n :: rest =>
      if n.sending then (s.withOut { s.out with tx := none, notices := rest }).raiseOccasion (.pass none)
      else s.freeLine
    | [] => s.freeLine
  | some ⟨.reply _, _⟩ | some ⟨.statusSecond _, _⟩ | some ⟨.event _ _ _, _⟩ | none => s

/-- DONE_SENT (R169). -/
def execDoneSent (s : State) : Result := act doneSentEffect s

/-- The last byte of an EVENT frame has left: its slot becomes not pending, or takes over its late record (R171). -/
def eventSentEffect (s : State) : State :=
  match s.out.tx with
  | some ⟨.event cls _ _, _⟩ => s.withOut { s.out with tx := none, events := finishEvent cls s.out.events }
  | some ⟨.reply _, _⟩ | some ⟨.statusSecond _, _⟩ | some ⟨.done _ _, _⟩ | none => s

/-- EVENT_SENT (R171). -/
def execEventSent (s : State) : Result := act eventSentEffect s

/-- SET_EVENTS carried out: all 24 enables, and the slots of the classes it disables are discarded (R172). -/
def setEventsEffect (ops : SetEventsOps) (s : State) : State :=
  (s.withOut { s.out with
    enables := ops.enables
    events := s.out.events.filter fun e => enabledIn ops.enables e.cls }).answer .ok (.setEvents s.out.enables)

/-- SET_EVENTS (R172). -/
def execSetEvents (hdr : Header) (ops : Operands SetEventsOps) (s : State) : Result :=
  manage (.setEvents hdr ops) hdr ops setEventsEffect s

end Sys2Proof.Machine
end

