-- ==== Sys2Proof/Machine/Management.lean ====
section
/-! DEFINITION. The management unit and the resets (chapter 09, R174, R186): READ_STATUS, SET_JOB_TAG, RESET_PART,
BAD_COMMAND, the RESET pin. -/

namespace Sys2Proof.Machine

/-- The cause field of the status record: the hold cause in HELD, the latched cause in FAULT (R160). -/
def HeadRecord.statusCause (hd : HeadRecord) : StatusCause :=
  match hd.state with
  | .held => match hd.holdCause with
    | some c => .hold c
    | none => .none
  | .fault => match hd.latch.cause with
    | some c => .fault c
    | none => .none
  | .off | .ready | .cutting => .none

/-- A head's part of the status record (R160). -/
def HeadRecord.status (hd : HeadRecord) : HeadStatus where
  state := hd.state
  cause := hd.statusCause
  furtherFaults := hd.furtherFaults
  queueDepth := hd.queue.length
  inFlight := hd.inFlight.length
  derate := hd.monitor.derate
  reported := hd.reported
  chainEnd := hd.chainEnd

/-- The status record as it stands (R160). -/
def State.statusRecord (s : State) : StatusRecord where
  blockState := s.block.state
  slotsInUse := s.slotsInUse
  machineStop := s.pins.machineStop
  lineHold := s.pins.lineHold
  counters := s.counters
  jobTag := s.mgmt.jobTag
  heads := s.heads.map HeadRecord.status

/-- The four counters at 0 (R167). -/
def LinkCounters.zero : LinkCounters := ⟨0, 0, 0, 0⟩

/-- READ_STATUS carried out: the record is read, then the counters are cleared if asked (R160, R161). -/
def readStatusEffect (ops : ReadStatusOps) (s : State) : State :=
  let read := s.answer .ok (.readStatus s.statusRecord)
  if ops.clearCounters then read.withCounters .zero else read

/-- READ_STATUS (R160). -/
def execReadStatus (hdr : Header) (ops : Operands ReadStatusOps) (s : State) : Result :=
  manage (.readStatus hdr ops) hdr ops readStatusEffect s

/-- SET_JOB_TAG carried out (R162). -/
def setJobTagEffect (ops : SetJobTagOps) (s : State) : State :=
  (s.withMgmt { s.mgmt with jobTag := ops.tag }).answer .ok (.setJobTag s.mgmt.jobTag)

/-- SET_JOB_TAG (R162). -/
def execSetJobTag (hdr : Header) (ops : Operands SetJobTagOps) (s : State) : Result :=
  manage (.setJobTag hdr ops) hdr ops setJobTagEffect s

/-- RESET is high and the MACHINE STOP input has the given level; LINE HOLD follows it, for no head
is in FAULT at the reset values (R120, R186). -/
def State.setResetPins (level : Bool) (s : State) : State := s.withPins ⟨false, level, level⟩

/-- The part at its reset values, both receivers hunting, with its queue of waiting commands, the signals on their way,
its MACHINE STOP input and its count of free values as they are (R164, R174, R186). -/
def State.resetValues (s : State) : State :=
  (((State.reset.withPending s.pending).withArriving s.arriving).withFresh s.fresh).setResetPins s.pins.machineStop

/-- RESET_PART carried out: every unit at its reset values in one act; the receivers carry on, the command slot and
the frames on the two transmitters are kept, and the REPLY is placed (R163, R164, R174). -/
def resetPartEffect (_ops : NoOps) (s : State) : State :=
  if s.anyInFlight then s.refuse .busyCutting
  else
    let r := s.resetValues.withReceivers s.receivers
    (((r.withMgmt { r.mgmt with slot := s.mgmt.slot }).withOut { r.out with tx := s.out.tx }).withDrive
      { r.drive with tx := s.drive.tx }).answer .ok .none

/-- RESET_PART (R164). -/
def execResetPart (hdr : Header) (ops : Operands NoOps) (s : State) : Result :=
  manage (.resetPart hdr ops) hdr ops resetPartEffect s

/-- BAD_COMMAND: a code that names no command is answered BAD_COMMAND and changes nothing else (R156). -/
def badCommandEffect (_ops : NoOps) (s : State) : State := s.refuse .badCommand

/-- BAD_COMMAND (R156): the code is tested before the operand length, which is not looked at. -/
def execBadCommand (hdr : Header) (code : Byte) (s : State) : Result :=
  manage (.badCommand hdr code) hdr (.given NoOps.mk) badCommandEffect s

/-- RESET is taken low: every operation under way ends, a frame being received with them, both transmitters idle,
LINE HOLD is asserted (R159, R186). Log entry 8. -/
def resetPinLowEffect (s : State) : State :=
  (((((s.withPins ⟨true, s.pins.machineStop, true⟩).withReceivers .hunting).withOccasions []).withOut
    { s.out with tx := none }).withDrive { s.drive with tx := none }).withBlock { s.block with unloadVisit := false }

/-- RESET_PIN_LOW (R186). -/
def execResetPinLow (s : State) : Result := .next (resetPinLowEffect s)

/-- POWER_ON_RESET: RESET goes high and every piece of state takes its power-on reset value (R186). Log entry 8. -/
def execPowerOnReset (s : State) : Result := .next s.resetValues

end Sys2Proof.Machine
end

