-- ==== Sys2Proof/Machine/Monitor.lean ====
section
/-! DEFINITION. The blade monitor (chapter 06): checked samples, the drag check and the derate ladder, the cycle
check, the two timers' expiries, SET_MONITOR and SET_TIMERS. -/

namespace Sys2Proof.Machine

/-- The oldest record, when a STATUS frame naming an issue number is a checked sample of it (R103). -/
def HeadRecord.checkedRecord (hd : HeadRecord) (executing : Option Byte) : Option InFlight :=
  match hd.state, hd.inFlight, executing with
  | .ready, r :: _, some n | .cutting, r :: _, some n | .held, r :: _, some n =>
    if n = r.issue ∧ hd.haltOutstanding = false ∧ r.stroke.kind = .cut then some r else none
  | .off, _, _ | .fault, _, _ | _, [], _ | _, _, none => none

/-- How the drag sample lies to the record's window (R104). -/
inductive DragClass
  | above
  | below
  | within
  deriving DecidableEq, Repr

/-- The class of a drag sample; a low sample of a record whose dominant grade is 0 is within (R104). A record
without a window is not checked (R77, R103). -/
def dragClass (r : InFlight) (drag : Nat) : DragClass :=
  match r.window with
  | none => .within
  | some w =>
    if w.high < drag then .above
    else if drag < w.low ∧ r.dominant ≠ some 0 then .below
    else .within

/-- The saw-high flag of the oldest record is set (R104). -/
def HeadRecord.markSawHigh (hd : HeadRecord) : HeadRecord :=
  match hd.inFlight with
  | [] => hd
  | r :: rest => { hd with inFlight := { r with sawHigh := true } :: rest }

/-- The runs and the saw-high flag after a drag sample (R104). -/
def HeadRecord.drag (cls : DragClass) (hd : HeadRecord) : HeadRecord :=
  match cls with
  | .above => { hd.markSawHigh with monitor := { hd.monitor with highRun := hd.monitor.highRun + 1, lowRun := 0 } }
  | .below => { hd with monitor := { hd.monitor with highRun := 0, lowRun := hd.monitor.lowRun + 1 } }
  | .within => { hd with monitor := { hd.monitor with highRun := 0, lowRun := 0 } }

/-- The high run has reached its debounce: the derate level rises, or at level 3 the head faults (R105). -/
def State.highRunReached (h : Head) (r : InFlight) (s : State) : State :=
  let m := (s.head h).monitor
  if m.derate < 3 then
    (s.modHead h fun hd => { hd with monitor := { hd.monitor with highRun := 0 } }).changeDerate h (m.derate + 1) r.issue
  else s.handFault h .dragHigh (some r.issue) 0

/-- The drag check of a checked sample (R104 to R106). -/
def State.dragCheck (h : Head) (r : InFlight) (drag : Nat) (s : State) : State :=
  let sampled := s.modHead h (HeadRecord.drag (dragClass r drag))
  let hd := sampled.head h
  match dragClass r drag with
  | .above => if hd.monitorSettings.highDebounce ≤ hd.monitor.highRun then sampled.highRunReached h r else sampled
  | .below =>
    if hd.monitorSettings.lowDebounce ≤ hd.monitor.lowRun then sampled.handFault h .bladeLoss (some r.issue) 0
    else sampled
  | .within => sampled

/-- A sample is short of blade cycles (R109). -/
def shortSample (rate cycles ms tolerance : Nat) : Bool := cycles * 100000 < rate * ms * (100 - tolerance)

/-- The cycle check of a checked sample (R109, R110). -/
def State.cycleCheck (h : Head) (r : InFlight) (cycles ms : Nat) (s : State) : State :=
  let hd := s.head h
  let run := if shortSample r.rate cycles ms hd.monitorSettings.tolerance then hd.monitor.stallRun + 1 else 0
  let sampled := s.modHead h fun hd => { hd with monitor := { hd.monitor with stallRun := run } }
  if hd.monitorSettings.stallDebounce ≤ run then sampled.handFault h .bladeStall (some r.issue) 0 else sampled

/-- A checked sample: the drag check, then the cycle check unless the drag check has faulted the head (R111). -/
def State.sample (h : Head) (r : InFlight) (drag cycles ms : Nat) (s : State) : State :=
  let dragged := s.dragCheck h r drag
  if (dragged.head h).state = .fault then dragged else dragged.cycleCheck h r cycles ms

/-- STATUS: dropped for a head in OFF; else a sign of life, and a checked sample goes through the two checks
(R98, R103). -/
def statusEffect (h : Head) (executing : Option Byte) (drag cycles ms : Nat) (s : State) : State :=
  if (s.head h).state = .off then s
  else
    let alive := s.modHead h HeadRecord.signOfLife
    match (s.head h).checkedRecord executing with
    | some r => alive.sample h r drag cycles ms
    | none => alive

/-- STATUS (R103). -/
def execStatus (h : Head) (executing : Option Byte) (drag : BitVec 10) (cycles ms : Word) (s : State) : Result :=
  act (statusEffect h executing drag.toNat cycles.toNat ms.toNat) s

/-- The status-gap timer of a head has run its limit (R112). A stopped timer does not expire (log entry 2). -/
def statusGapExpiryEffect (h : Head) (s : State) : State :=
  match (s.head h).gapTimer with
  | .stopped => s
  | .running _ =>
    (s.modHead h fun hd => { hd with gapTimer := .stopped }).handFault h .driveSilent (s.head h).oldestIssue 0

/-- STATUS_GAP_EXPIRY (R112). -/
def execStatusGapExpiry (h : Head) (s : State) : Result := act (statusGapExpiryEffect h) s

/-- The overdue timer of a head has run its record's limit (R114). A stopped timer does not expire (log entry 2). -/
def overdueExpiryEffect (h : Head) (s : State) : State :=
  if (s.head h).overdueRunning then
    (s.modHead h fun hd => { hd with overdueRunning := false }).handFault h .overdue (s.head h).oldestIssue 0
  else s

/-- OVERDUE_EXPIRY (R114). -/
def execOverdueExpiry (h : Head) (s : State) : Result := act (overdueExpiryEffect h) s

/-- The operands of a SET_MONITOR pass its tests (R115). -/
def monitorPasses (ops : SetMonitorOps) : Bool :=
  inRange 1 15 ops.highDebounce.toNat && inRange 1 15 ops.lowDebounce.toNat && inRange 1 15 ops.stallDebounce.toNat &&
    inRange 1 15 ops.stepDownCount.toNat && inRange 5 50 ops.tolerance.toNat

/-- The settings that a SET_MONITOR carries (R115). -/
def monitorWritten (ops : SetMonitorOps) : MonitorSettings :=
  ⟨ops.highDebounce.toNat, ops.lowDebounce.toNat, ops.stallDebounce.toNat, ops.stepDownCount.toNat, ops.tolerance.toNat⟩

/-- SET_MONITOR carried out (R115). -/
def setMonitorEffect (ops : SetMonitorOps) (s : State) : State :=
  if monitorPasses ops then
    (s.modHead ops.head fun hd => { hd with monitorSettings := monitorWritten ops }).answer .ok
      (.setMonitor (s.head ops.head).monitorSettings)
  else s.refuse .badOperand

/-- SET_MONITOR (R115). -/
def execSetMonitor (hdr : Header) (ops : Operands SetMonitorOps) (s : State) : Result :=
  manage (.setMonitor hdr ops) hdr ops setMonitorEffect s

/-- The operands of a SET_TIMERS pass its tests (R116). -/
def timersPass (ops : SetTimersOps) : Bool :=
  inRange 5 1000 ops.gapLimit.toNat && inRange 4 16 ops.factor.toNat && inRange 50 5000 ops.allowance.toNat

/-- SET_TIMERS carried out (R116). -/
def setTimersEffect (ops : SetTimersOps) (s : State) : State :=
  if timersPass ops then
    (s.modHead ops.head fun hd =>
      { hd with timerSettings := ⟨ops.gapLimit.toNat, ops.factor.toNat, ops.allowance.toNat⟩ }).answer .ok
      (.setTimers (s.head ops.head).timerSettings)
  else s.refuse .badOperand

/-- SET_TIMERS (R116). -/
def execSetTimers (hdr : Header) (ops : Operands SetTimersOps) (s : State) : Result :=
  manage (.setTimers hdr ops) hdr ops setTimersEffect s

end Sys2Proof.Machine
end

