-- ==== Sys2Proof/Machine/Program.lean ====
section
/-! DEFINITION. The map programming unit (chapter 08): SET_PRESET, SET_SOURCE, SPAN_WRITE, SPAN_QUERY, READ_CELL. -/

namespace Sys2Proof.Machine

/-- The record of a source. -/
def State.source (s : State) (src : Source) : SourceRecord := s.sources.get src

/-- Replaces the record of a source. -/
def State.setSource (src : Source) (r : SourceRecord) (s : State) : State :=
  s.withSources (s.sources.set src.val r src.isLt)

/-- SET_PRESET carried out for the sending source (R143). -/
def setPresetEffect (src : Source) (ops : SetPresetOps) (s : State) : State :=
  let r := s.source src
  if 15 < ops.zone.toNat then s.refuse .badOperand
  else (s.setSource src { r with zonePreset := ops.zone.toNat, floorPreset := ops.floor.toNat }).answer .ok
    (.setPreset r.zonePreset r.floorPreset)

/-- SET_PRESET (R143). -/
def execSetPreset (hdr : Header) (ops : Operands SetPresetOps) (s : State) : Result :=
  manage (.setPreset hdr ops) hdr ops (setPresetEffect hdr.source) s

/-- SET_SOURCE carried out for the sending source (R144). -/
def setSourceEffect (src : Source) (ops : SetSourceOps) (s : State) : State :=
  if src ≠ 0 then s.refuse .badSource
  else if ht : ops.target.toNat < 4 then
    let target : Source := ⟨ops.target.toNat, ht⟩
    let r := s.source target
    (s.setSource target { r with protectedSet := ops.protectedSet }).answer .ok (.setSource r.protectedSet)
  else s.refuse .badOperand

/-- SET_SOURCE (R144). -/
def execSetSource (hdr : Header) (ops : Operands SetSourceOps) (s : State) : Result :=
  manage (.setSource hdr ops) hdr ops (setSourceEffect hdr.source) s

/-- The two fields that a SPAN_WRITE can name (R146, R179). -/
inductive SpanField
  | zone
  | floor
  deriving DecidableEq, Repr

/-- The field of a field byte; any other byte is refused (R146, R179). -/
def spanField (b : Byte) : Option SpanField := if b = 0 then some .zone else if b = 1 then some .floor else none

/-- How an entry of a span is taken (R147). -/
inductive SpanEntry
  | outside
  | kept
  | shielded
  | written
  deriving DecidableEq, Repr

/-- The cell that entry k of a span concerns (R147, R150). -/
def spanCell (row firstColumn k : Nat) : CellRef := ⟨firstColumn + k, row⟩

/-- The class of entry k, tested in the order of R147 against the cell's zone before the command. -/
def State.spanEntry (s : State) (ops : SpanWriteOps) (shield : BitVec 16) (k : Nat) : SpanEntry :=
  let c := spanCell ops.row.toNat ops.firstColumn.toNat k
  if s.block.columns ≤ c.column then .outside
  else if ops.pattern.getLsbD k then .kept
  else if shield.getLsbD (s.cell c).zone then .shielded
  else .written

/-- The write of one cell (R147). -/
def Cell.program (field : SpanField) (r : SourceRecord) (c : Cell) : Cell :=
  match field with
  | .zone => { c with zone := r.zonePreset }
  | .floor => { c with floorLimit := r.floorPreset }

/-- The entries of a span that are taken as a given class (R147). -/
def State.spanEntries (s : State) (ops : SpanWriteOps) (shield : BitVec 16) (e : SpanEntry) : List Nat :=
  (List.range ops.count.toNat).filter fun k => s.spanEntry ops shield k == e

/-- A SPAN_WRITE that has passed its tests (R147, R148). -/
def State.writeSpan (src : Source) (field : SpanField) (ops : SpanWriteOps) (s : State) : State :=
  let r := s.source src
  let entries := s.spanEntries ops r.protectedSet
  let written := entries .written
  let cells := written.map (spanCell ops.row.toNat ops.firstColumn.toNat)
  let wrote := s.modCells (Cell.program field r) cells
  let passed := if written.isEmpty then wrote else wrote.raiseOccasion (.pass none)
  passed.answer .ok (.spanWrite written.length (entries .shielded).length (entries .outside).length)

/-- SPAN_WRITE carried out, its tests in the order of R146. -/
def spanWriteEffect (src : Source) (ops : SpanWriteOps) (s : State) : State :=
  if s.block.state ≠ .loaded then s.refuse .noBlock
  else if !inRange 1 32 ops.count.toNat then s.refuse .badOperand
  else if s.block.rows ≤ ops.row.toNat then s.refuse .badOperand
  else match spanField ops.field with
    | none => s.refuse .badOperand
    | some field => s.writeSpan src field ops

/-- SPAN_WRITE (R147). -/
def execSpanWrite (hdr : Header) (ops : Operands SpanWriteOps) (s : State) : Result :=
  manage (.spanWrite hdr ops) hdr ops (spanWriteEffect hdr.source) s

/-- A flag set of 32 entries, entry k the bit of value 2 to the power k (R176). -/
def flags32 (p : Nat → Bool) : BitVec 32 :=
  (List.range 32).foldl (fun v k => if p k then v ||| (1#32 <<< k) else v) 0

/-- A result of a SPAN_QUERY: entry k below the count, in a column of the map, whose cell has the property (R150). -/
def State.queryResult (s : State) (ops : SpanQueryOps) (p : Cell → Bool) : BitVec 32 :=
  flags32 fun k =>
    let c := spanCell ops.row.toNat ops.firstColumn.toNat k
    k < ops.count.toNat && c.column < s.block.columns && p (s.cell c)

/-- SPAN_QUERY carried out (R150). -/
def spanQueryEffect (ops : SpanQueryOps) (s : State) : State :=
  if s.block.state ≠ .loaded then s.refuse .noBlock
  else if !inRange 1 32 ops.count.toNat || s.block.rows ≤ ops.row.toNat then s.refuse .badOperand
  else s.answer .ok
    (.spanQuery (s.queryResult ops fun c => c.kerfFloor ≤ ops.level.toNat) (s.queryResult ops Cell.unsure))

/-- SPAN_QUERY (R150). -/
def execSpanQuery (hdr : Header) (ops : Operands SpanQueryOps) (s : State) : Result :=
  manage (.spanQuery hdr ops) hdr ops spanQueryEffect s

/-- READ_CELL carried out (R151). -/
def readCellEffect (ops : ReadCellOps) (s : State) : State :=
  let c : CellRef := ⟨ops.column.toNat, ops.row.toNat⟩
  if s.block.state ≠ .loaded then s.refuse .noBlock
  else if !c.inMap s.block then s.refuse .badOperand
  else s.answer .ok (.readCell (s.cell c))

/-- READ_CELL (R151). -/
def execReadCell (hdr : Header) (ops : Operands ReadCellOps) (s : State) : Result :=
  manage (.readCell hdr ops) hdr ops readCellEffect s

end Sys2Proof.Machine
end

