-- ==== Sys2Proof/Machine/Strokes.lean ====
section
/-! DEFINITION. Strokes and the head queues (chapter 02): acceptance and marking, the tag windows, FLUSH_QUEUE. -/

namespace Sys2Proof.Machine

/-- A line tag matches an enabled window: they agree where the mask holds a one (R27, R28). -/
def TagWindow.hits (tag : Word) (w : TagWindow) : Bool := w.enable && tag &&& w.mask == w.base &&& w.mask

/-- The marking of a stroke at acceptance (R27). -/
def State.marks (s : State) (st : Stroke) : Bool := st.notify || s.windows.toList.any (TagWindow.hits st.tag)

/-- A stroke joins the back of its head's queue, marked; into an empty queue it is an occasion for the head (R25). -/
def State.accept (st : Stroke) (s : State) : State :=
  let joined := s.modHead st.head fun hd => { hd with queue := hd.queue ++ [⟨st, s.marks st⟩] }
  if (s.head st.head).queue.isEmpty then joined.raiseOccasion (.one st.head) else joined

/-- A STROKE frame reaches its head's queue: accepted below 32 strokes, else dropped with QUEUE_OVERFLOW (R25, R26). -/
def strokeEffect (st : Stroke) (s : State) : State :=
  if (s.head st.head).queue.length < 32 then s.accept st
  else s.raise (.ofHead .queueOverflow st.head) (.queueOverflow st.tag)

/-- STROKE (R25). -/
def execStroke (st : Stroke) (s : State) : Result := act (strokeEffect st) s

/-- SET_NOTIFY_WINDOW carried out (R29). -/
def setNotifyWindowEffect (ops : NotifyWindowOps) (s : State) : State :=
  if hw : ops.window.toNat < 4 then
    let previous := s.windows[ops.window.toNat]
    (s.withWindows (s.windows.set ops.window.toNat ⟨ops.enable, ops.mask, ops.base⟩)).answer .ok
      (.setNotifyWindow previous)
  else s.refuse .badOperand

/-- SET_NOTIFY_WINDOW (R29). -/
def execSetNotifyWindow (hdr : Header) (ops : Operands NotifyWindowOps) (s : State) : Result :=
  manage (.setNotifyWindow hdr ops) hdr ops setNotifyWindowEffect s

/-- FLUSH_QUEUE carried out (R33). -/
def flushQueueEffect (ops : HeadOps) (s : State) : State :=
  (s.flush ops.head).answer .ok (.flushQueue (s.head ops.head).queue.length)

/-- FLUSH_QUEUE (R33). -/
def execFlushQueue (hdr : Header) (ops : Operands HeadOps) (s : State) : Result :=
  manage (.flushQueue hdr ops) hdr ops flushQueueEffect s

end Sys2Proof.Machine
end

