-- ==== Sys2Proof/Machine/Dispatch.lean ====
section
/-! DEFINITION. The effect of each command, one arm for each row of spec/opcode_table.json. -/

namespace Sys2Proof.Machine

def exec (i : Instr) (s : State) : Host.Outcome State Fault Refusal :=
  match i with
  | .stroke st => Sys2Proof.Machine.execStroke st s
  | .loadBlock hdr ops => Sys2Proof.Machine.execLoadBlock hdr ops s
  | .initialisationVisitEnd => Sys2Proof.Machine.execInitialisationVisitEnd s
  | .unloadBlock hdr ops => Sys2Proof.Machine.execUnloadBlock hdr ops s
  | .unloadVisitEnd => Sys2Proof.Machine.execUnloadVisitEnd s
  | .writeGrade hdr ops => Sys2Proof.Machine.execWriteGrade hdr ops s
  | .setNotifyWindow hdr ops => Sys2Proof.Machine.execSetNotifyWindow hdr ops s
  | .flushQueue hdr ops => Sys2Proof.Machine.execFlushQueue hdr ops s
  | .setHead hdr ops => Sys2Proof.Machine.execSetHead hdr ops s
  | .setPosition hdr ops => Sys2Proof.Machine.execSetPosition hdr ops s
  | .holdHead hdr ops => Sys2Proof.Machine.execHoldHead hdr ops s
  | .releaseHead hdr ops => Sys2Proof.Machine.execReleaseHead hdr ops s
  | .clearHead hdr ops => Sys2Proof.Machine.execClearHead hdr ops s
  | .setMonitor hdr ops => Sys2Proof.Machine.execSetMonitor hdr ops s
  | .setTimers hdr ops => Sys2Proof.Machine.execSetTimers hdr ops s
  | .setPreset hdr ops => Sys2Proof.Machine.execSetPreset hdr ops s
  | .setSource hdr ops => Sys2Proof.Machine.execSetSource hdr ops s
  | .spanWrite hdr ops => Sys2Proof.Machine.execSpanWrite hdr ops s
  | .spanQuery hdr ops => Sys2Proof.Machine.execSpanQuery hdr ops s
  | .readCell hdr ops => Sys2Proof.Machine.execReadCell hdr ops s
  | .setEvents hdr ops => Sys2Proof.Machine.execSetEvents hdr ops s
  | .readStatus hdr ops => Sys2Proof.Machine.execReadStatus hdr ops s
  | .setJobTag hdr ops => Sys2Proof.Machine.execSetJobTag hdr ops s
  | .resetPart hdr ops => Sys2Proof.Machine.execResetPart hdr ops s
  | .badCommand hdr code => Sys2Proof.Machine.execBadCommand hdr code s
  | .evaluation h => Sys2Proof.Machine.execEvaluation h s
  | .pass => Sys2Proof.Machine.execPass s
  | .driveFrameSent => Sys2Proof.Machine.execDriveFrameSent s
  | .status h executing drag cycles ms => Sys2Proof.Machine.execStatus h executing drag cycles ms s
  | .complete h issue endPosition => Sys2Proof.Machine.execComplete h issue endPosition s
  | .halted h issue cellsDone stop => Sys2Proof.Machine.execHalted h issue cellsDone stop s
  | .driveFault h issue code => Sys2Proof.Machine.execDriveFault h issue code s
  | .statusGapExpiry h => Sys2Proof.Machine.execStatusGapExpiry h s
  | .overdueExpiry h => Sys2Proof.Machine.execOverdueExpiry h s
  | .machineStopAsserted => Sys2Proof.Machine.execMachineStopAsserted s
  | .machineStopDeasserted => Sys2Proof.Machine.execMachineStopDeasserted s
  | .corruptFrame link check => Sys2Proof.Machine.execCorruptFrame link check s
  | .lengthAbove48 link length => Sys2Proof.Machine.execLengthAbove48 link length s
  | .receiveGap link => Sys2Proof.Machine.execReceiveGap link s
  | .replySent => Sys2Proof.Machine.execReplySent s
  | .doneSent => Sys2Proof.Machine.execDoneSent s
  | .eventSent => Sys2Proof.Machine.execEventSent s
  | .resetPinLow => Sys2Proof.Machine.execResetPinLow s
  | .powerOnReset => Sys2Proof.Machine.execPowerOnReset s

end Sys2Proof.Machine
end

