-- ==== Sys2Proof/Machine/Step.lean ====
section
/-! DEFINITION. One step: the command at the front of the queue is carried out on the state with the queue's rest;
with no command waiting, the signal that comes next reaches its receiver. -/

namespace Sys2Proof.Machine

/-- One step of the part. With an empty queue the next signal is heard (log entry 5), and with none the part idles
(log entry 4). -/
def step (s : State) : Host.Outcome State Fault Refusal :=
  match s.pending with
  | c :: rest => exec c (s.withPending rest)
  | [] =>
    match s.arriving with
    | x :: more => .next ((s.withArriving more).hear x)
    | [] => .next s

/-- The state with the command that a word of the opcode table spells at the front of its queue; the word spells
none (log entry 17). -/
def State.withFetchWord (s : State) (nbits w : Nat) : State :=
  match decodeTableWord nbits w with
  | some c => s.withPending (c :: s.pending)
  | none => s

end Sys2Proof.Machine
end

