-- ==== Sys2Proof/Config.lean ====
section
/-! DEFINITION. The free values: what the spec leaves open and the part nevertheless sends.
Each is an opaque constant applied to the counter `fresh` of State, so nothing can be proved of its value. -/

namespace Sys2Proof

/-- The issue number byte of a HEAD_FAULT EVENT frame whose issue number is not present (R183 gives the byte
a place and no value then). Log entry 9. -/
opaque Config.absentIssueByte : Nat → Byte

/-- Bits 2 to 5 of byte 4 of the status record, to which R181 gives no content. Log entry 10. -/
opaque Config.statusSpareBits : Nat → BitVec 4

end Sys2Proof
end

