-- ==== Sys2Proof/Machine/Frames.lean ====
section
/-! DEFINITION. The bytes of every frame that the part sends: the envelope (R175, R176), REPLY, DONE and EVENT
frames (R180 to R183), ISSUE and HALT frames (R184), and the code values (R185). -/

namespace Sys2Proof.Machine

/-! ### Fields (R176) -/

/-- A field of one byte. -/
def byte1 (n : Nat) : List Byte := [BitVec.ofNat 8 n]

/-- A field of two bytes, most significant byte first. -/
def word2 (w : Word) : List Byte := [w.extractLsb' 8 8, w.extractLsb' 0 8]

/-- A field of two bytes that holds a number. -/
def nat2 (n : Nat) : List Byte := word2 (BitVec.ofNat 16 n)

/-- A flag byte: bit 0, the other bits sent as 0. -/
def flag1 (b : Bool) : List Byte := [if b then 1 else 0]

/-- A set of 24 flags, most significant byte first. -/
def flags3 (v : BitVec 24) : List Byte := [v.extractLsb' 16 8, v.extractLsb' 8 8, v.extractLsb' 0 8]

/-- A set of 32 flags, most significant byte first. -/
def flags4 (v : BitVec 32) : List Byte :=
  [v.extractLsb' 24 8, v.extractLsb' 16 8, v.extractLsb' 8 8, v.extractLsb' 0 8]

/-- A point; the bits of the height word above the low 12 are sent as 0. -/
def point6 (p : Point) : List Byte := word2 p.x ++ word2 p.y ++ word2 (p.z.setWidth 16)

/-- A point with its valid flag in the top bit of the height word. -/
def position6 (p : Position) : List Byte :=
  word2 p.point.x ++ word2 p.point.y ++ word2 (p.point.z.setWidth 16 ||| if p.valid then 0x8000 else 0)

/-- A head number. -/
def head1 (h : Head) : List Byte := byte1 h.val

/-- A claim owner; none is sent as 0xFF. -/
def owner1 (o : Option Head) : List Byte :=
  match o with
  | some h => head1 h
  | none => [0xFF]

/-! ### Code values (R183, R185) -/

/-- The codes of the statuses (R185). -/
def Status.code : Status → Byte
  | .ok => 0
  | .badCommand => 1
  | .badOperand => 2
  | .badSource => 3
  | .noBlock => 4
  | .busyCutting => 5
  | .state => 6
  | .machineStop => 7
  | .faulted => 8

/-- The codes of the block states (R185). -/
def BlockState.code : BlockState → Nat
  | .noBlock => 0
  | .initialising => 1
  | .loaded => 2

/-- The codes of the head states (R185). -/
def HeadState.code : HeadState → Byte
  | .off => 0
  | .ready => 1
  | .cutting => 2
  | .held => 3
  | .fault => 4

/-- The cause codes of the hold causes (R185). -/
def HoldCause.code : HoldCause → Byte
  | .soft => 1
  | .hard => 2
  | .refused => 3

/-- The cause codes of the fault causes (R185). -/
def FaultCause.code : FaultCause → Byte
  | .dragHigh => 8
  | .bladeLoss => 9
  | .bladeStall => 10
  | .overdue => 11
  | .driveSilent => 12
  | .driveFault => 13
  | .machineStop => 14

/-- The cause codes of the status record (R185). -/
def StatusCause.code : StatusCause → Byte
  | .none => 0
  | .hold c => c.code
  | .fault c => c.code

/-- The codes of the refusal reasons (R185). -/
def RefusalReason.code : RefusalReason → Byte
  | .noPosition => 1
  | .discontinuous => 2
  | .outOfBlock => 3
  | .tooLong => 4
  | .badTravel => 5
  | .zoneDenied => 6
  | .belowFloor => 7
  | .gradeUnset => 8
  | .feedZero => 9

/-- The codes of the outcomes (R185). -/
def StrokeOutcome.code : StrokeOutcome → Byte
  | .complete => 0
  | .halted => 1
  | .unresolved => 2

/-- The codes of the stroke kinds (R185). -/
def strokeKindCode : StrokeKind → Byte
  | .cut => 0
  | .travel => 1

/-- The codes of the links (R183). -/
def linkCode : Link → Byte
  | .line => 0
  | .drive => 1

/-- The codes of the link errors (R183). -/
def LinkError.code : LinkError → Byte
  | .crc => 0
  | .malformed => 1

/-- The codes of the report kinds (R183). -/
def ReportKind.code : ReportKind → Byte
  | .complete => 1
  | .halted => 2
  | .driveFault => 3

/-! ### Payloads -/

/-- The status record's part fields, bytes 4 to 15 of its frame 0; bits 2 to 5 of byte 4 are free values (R181,
log entry 10). -/
def StatusRecord.partBytes (fresh : Nat) (r : StatusRecord) : List Byte :=
  [(if r.lineHold then 0x80 else 0) ||| (if r.machineStop then 0x40 else 0) |||
      ((Config.statusSpareBits fresh).setWidth 8 <<< 2) ||| BitVec.ofNat 8 r.blockState.code] ++
    byte1 r.slotsInUse ++ nat2 r.counters.lineCrc ++ nat2 r.counters.lineMalformed ++ nat2 r.counters.driveCrc ++
    nat2 r.counters.driveMalformed ++ word2 r.jobTag

/-- A head record of the status record (R181). -/
def HeadStatus.bytes (h : HeadStatus) : List Byte :=
  [h.state.code, h.cause.code] ++ byte1 (h.furtherFaults + 16 * h.derate + 64 * h.inFlight) ++ byte1 h.queueDepth ++
    position6 h.reported ++ position6 h.chainEnd

/-- The results of a REPLY from byte 3 on; those of a status record are its first frame's (R180, R181). -/
def Results.bytes (fresh : Nat) : Results → List Byte
  | .none => []
  | .loadBlock top flushed => nat2 top ++ byte1 flushed
  | .unloadBlock cut unsure => nat2 cut ++ nat2 unsure
  | .writeGrade e => flag1 e.set ++ nat2 e.bite ++ nat2 e.dragLow ++ nat2 e.dragHigh
  | .setNotifyWindow w => flag1 w.enable ++ word2 w.mask ++ word2 w.base
  | .flushQueue removed => byte1 removed
  | .setHead after p => [after.code] ++ word2 p.zoneSet ++ byte1 p.guard ++ byte1 p.rate ++ nat2 p.travelMax ++
      byte1 p.clearance ++ byte1 p.lowWater
  | .setPosition p => position6 p
  | .holdHead cause p => [cause.elim 0 HoldCause.code] ++ position6 p
  | .holdFaulted cause => [cause.code]
  | .releaseHead entered => [entered.code]
  | .clearHead resolved flushed => byte1 resolved ++ byte1 flushed
  | .setMonitor p => byte1 p.highDebounce ++ byte1 p.lowDebounce ++ byte1 p.stallDebounce ++
      byte1 p.stepDownCount ++ byte1 p.tolerance
  | .setTimers p => nat2 p.gapLimit ++ byte1 p.factor ++ nat2 p.allowance
  | .setPreset zone floor => byte1 zone ++ nat2 floor
  | .setSource p => word2 p
  | .spanWrite written shielded outside => byte1 written ++ byte1 shielded ++ byte1 outside
  | .spanQuery cut unsure => flags4 cut ++ flags4 unsure
  | .readCell c => nat2 c.kerfFloor ++ nat2 c.floorLimit ++ byte1 c.zone ++ owner1 c.owner ++ byte1 c.count ++
      flag1 c.unsure
  | .setEvents p => flags3 p
  | .readStatus r => byte1 0 ++ r.partBytes fresh ++ (r.heads.get 0).bytes ++ (r.heads.get 1).bytes
  | .setJobTag p => word2 p

/-- The three bytes with which a REPLY begins (R180). -/
def Reply.header (r : Reply) : List Byte := [r.seq, r.code, r.status.code]

/-- The results of the second frame of a status record, its part index first (R181). -/
def Results.secondBytes : Results → List Byte
  | .readStatus r => byte1 1 ++ (r.heads.get 2).bytes ++ (r.heads.get 3).bytes
  | .none | .loadBlock .. | .unloadBlock .. | .writeGrade .. | .setNotifyWindow .. | .flushQueue .. | .setHead ..
  | .setPosition .. | .holdHead .. | .holdFaulted .. | .releaseHead .. | .clearHead .. | .setMonitor ..
  | .setTimers .. | .setPreset .. | .setSource .. | .spanWrite .. | .spanQuery .. | .readCell .. | .setEvents ..
  | .setJobTag .. => []

/-- A DONE frame's payload (R182). -/
def Notice.bytes (n : Notice) (jobTag : Word) : List Byte :=
  head1 n.head ++ [n.issue] ++ word2 n.tag ++ [n.outcome.code] ++
    (match n.cells with | some k => nat2 k | none => []) ++ nat2 n.ratedFeed ++ word2 jobTag

/-- The details of an EVENT frame, without the bytes they do not fill; an absent issue number is a free value
(R183, log entry 9). -/
def Details.bytes (fresh : Nat) : Details → List Byte
  | .headFault cause issue code =>
    [cause.code, issue.getD (Config.absentIssueByte fresh), code] ++ flag1 issue.isSome
  | .strokeRefused tag reason => word2 tag ++ [reason.code]
  | .queueLow tag issue => word2 tag ++ [issue]
  | .queueOverflow tag => word2 tag
  | .derateChange level issue => byte1 level ++ [issue]
  | .linkError link error => [linkCode link, error.code]
  | .mgmtOverrun code seq => [code, seq]
  | .staleReport h issue kind => head1 h ++ [issue, kind.code]
  | .machineStop asserted => flag1 asserted

/-- The class and head bytes of an EVENT frame (R183). -/
def EventClass.bytes : EventClass → List Byte
  | .ofHead cls h => byte1 cls.code ++ head1 h
  | .ofPart cls => byte1 cls.code ++ [0xFF]

/-- An EVENT frame's payload; the bytes the details do not fill are 0 (R183). -/
def eventBytes (fresh : Nat) (cls : EventClass) (o : Occurrence) (jobTag : Word) : List Byte :=
  cls.bytes ++ byte1 o.count ++ ((o.details.bytes fresh) ++ [0, 0, 0, 0]).take 4 ++ word2 jobTag

/-- The kind and payload of a frame on the line transmitter (R175, R180 to R183). -/
def PlacedFrame.body (p : PlacedFrame) : Byte × List Byte :=
  match p.frame with
  | .reply r => (0x90, r.header ++ r.results.bytes p.fresh)
  | .statusSecond r => (0x90, r.header ++ r.results.secondBytes)
  | .done n jobTag => (0x91, n.bytes jobTag)
  | .event cls o jobTag => (0x92, eventBytes p.fresh cls o jobTag)

/-- The kind and payload of a frame of the drive link that the part sends (R175, R184). -/
def DriveFrame.body : DriveFrame → Byte × List Byte
  | .issue h num kind start finish feed rate n =>
    (0x20, head1 h ++ [num, strokeKindCode kind] ++ point6 start ++ point6 finish ++ nat2 feed ++ byte1 rate ++
      byte1 n)
  | .halt h => (0x21, head1 h)

/-- A frame in its envelope: delimiter, length, kind, payload, CRC high byte first (R175, R176). -/
def envelope (body : Byte × List Byte) : List Byte :=
  let covered := byte1 body.2.length ++ [body.1] ++ body.2
  [0xC3] ++ covered ++ word2 (crc covered)

/-- The bytes that the line transmitter sends, none while it is idle (R173). -/
def State.lineBytes (s : State) : List Byte :=
  match s.out.tx with
  | some p => envelope p.body
  | none => []

/-- The bytes that the drive transmitter sends, none while it is idle (R88). -/
def State.driveBytes (s : State) : List Byte :=
  match s.drive.tx with
  | some f => envelope f.body
  | none => []

end Sys2Proof.Machine
end

