-- ==== Sys2Proof/Safety.lean ====
section
/-! DEFINITION. The laws that the part keeps at every step, and the words in which frames are stated: what of the
state a step leaves as it was. -/

namespace Sys2Proof.Machine

/-! ### Laws of a head's record -/

/-- The in-flight list against the head state (R86, R130). -/
abbrev HeadRecord.ListLaw (hd : HeadRecord) : Prop :=
  hd.inFlight.length ≤ 2 ∧ (hd.state = .off ∨ hd.state = .ready → hd.inFlight = []) ∧
    (hd.state = .cutting → hd.inFlight ≠ [])

/-- The hold cause, the latch and the further-faults count against the head state (R119, R131, R132). -/
abbrev HeadRecord.CauseLaw (hd : HeadRecord) : Prop :=
  (hd.holdCause.isSome ↔ hd.state = .held) ∧ (hd.latch.cause.isSome ↔ hd.state = .fault) ∧
    (hd.latch.code ≠ 0 ↔ hd.latch.cause = some .driveFault) ∧ (hd.latch.cause = none → hd.latch.issue = none) ∧
    hd.furtherFaults ≤ 15 ∧ (hd.state ≠ .fault → hd.furtherFaults = 0)

/-- Only the oldest record has its overdue limit (R86, R113). -/
def limitsFilled : List InFlight → Bool
  | [] => true
  | r :: rest => r.overdueLimit.isSome && rest.all fun x => x.overdueLimit.isNone

/-- Both timers run exactly while a record is in flight outside FAULT (R112, R114). -/
abbrev HeadRecord.TimerLaw (hd : HeadRecord) : Prop :=
  (hd.gapTimer ≠ .stopped ↔ hd.inFlight ≠ [] ∧ hd.state ≠ .fault) ∧
    (hd.overdueRunning = true ↔ hd.inFlight ≠ [] ∧ hd.state ≠ .fault) ∧ limitsFilled hd.inFlight = true

/-- The chain end is the end of the newest record, each record starts where the one before it ends, and with
nothing in flight the chain end is the reported position (R35, R37). -/
def HeadRecord.pointsMeet (hd : HeadRecord) : Bool :=
  match hd.inFlight with
  | [] => hd.chainEnd == hd.reported
  | [r] => hd.chainEnd == ⟨r.stroke.finish, true⟩
  | r₁ :: r₂ :: _ => r₂.stroke.start == r₁.stroke.finish && hd.chainEnd == ⟨r₂.stroke.finish, true⟩

/-- The records carry the numbers just before the issue counter, modulo 256 (R85). -/
def HeadRecord.numbersRun (hd : HeadRecord) : Bool :=
  match hd.inFlight with
  | [] => true
  | [r] => hd.issueCounter == r.issue + 1
  | r₁ :: r₂ :: _ => r₂.issue == r₁.issue + 1 && hd.issueCounter == r₂.issue + 1

/-- A HALT is outstanding only for records in flight (R89). -/
abbrev HeadRecord.HaltLaw (hd : HeadRecord) : Prop := hd.haltOutstanding = true → hd.inFlight ≠ []

/-- All that ties a head's state to its list, its causes, its timers, its points and its issue numbers. -/
abbrev HeadRecord.Lawful (hd : HeadRecord) : Prop :=
  hd.ListLaw ∧ hd.CauseLaw ∧ hd.TimerLaw ∧ hd.pointsMeet = true ∧ hd.numbersRun = true ∧ hd.HaltLaw

/-- Every head's record is lawful. -/
abbrev State.HeadsLawful (s : State) : Prop := ∀ h, (s.head h).Lawful

/-- The settings lie in their ranges (R121, R115, R116). -/
abbrev HeadRecord.SettingsLaw (hd : HeadRecord) : Prop :=
  hd.settings.guard ≤ 7 ∧ inRange 10 80 hd.settings.rate = true ∧ inRange 1 4095 hd.settings.travelMax = true ∧
    hd.settings.clearance ≤ 255 ∧ hd.settings.lowWater ≤ 31 ∧
    inRange 1 15 hd.monitorSettings.highDebounce = true ∧ inRange 1 15 hd.monitorSettings.lowDebounce = true ∧
    inRange 1 15 hd.monitorSettings.stallDebounce = true ∧ inRange 1 15 hd.monitorSettings.stepDownCount = true ∧
    inRange 5 50 hd.monitorSettings.tolerance = true ∧ inRange 5 1000 hd.timerSettings.gapLimit = true ∧
    inRange 4 16 hd.timerSettings.factor = true ∧ inRange 50 5000 hd.timerSettings.allowance = true

/-- The runs, the clean count and the derate level lie in their ranges; outside FAULT every run is below 15, so
that no run rises above 15 (R102). -/
abbrev HeadRecord.MonitorLaw (hd : HeadRecord) : Prop :=
  hd.monitor.derate ≤ 3 ∧ hd.monitor.cleanCount < 15 ∧ hd.monitor.highRun ≤ 15 ∧ hd.monitor.lowRun ≤ 15 ∧
    hd.monitor.stallRun ≤ 15 ∧
    (hd.state ≠ .fault → hd.monitor.highRun < 15 ∧ hd.monitor.lowRun < 15 ∧ hd.monitor.stallRun < 15)

/-- Every head's settings and monitor state lie in their ranges. -/
abbrev State.RangesLaw (s : State) : Prop := ∀ h, (s.head h).SettingsLaw ∧ (s.head h).MonitorLaw

/-- An in-flight record of head h as issue builds it (R76, R80, R81). -/
abbrev InFlight.Law (h : Head) (r : InFlight) : Prop :=
  r.stroke.head = h ∧ 1 ≤ r.ratedFeed ∧ r.ratedFeed ≤ r.stroke.feed.toNat ∧ r.guard ≤ 7 ∧ r.pathLength ≤ 255 ∧
    r.reserved = r.notify ∧ (r.dominant.isSome ↔ r.stroke.kind = .cut) ∧ (r.window.isSome ↔ r.stroke.kind = .cut)

/-- Every queue holds at most 32 strokes, all of its own head (R25, R26). -/
abbrev State.QueuesLaw (s : State) : Prop :=
  ∀ h, (s.head h).queue.length ≤ 32 ∧ ∀ q ∈ (s.head h).queue, q.stroke.head = h

/-- Every in-flight record is as issue builds it. -/
abbrev State.RecordsLaw (s : State) : Prop := ∀ h, ∀ r ∈ (s.head h).inFlight, r.Law h

/-! ### Laws of the block, the cut map and the claims -/

/-- Strokes are in flight only while the block is LOADED with no unload visit running (R2). -/
abbrev State.FlightLaw (s : State) : Prop := s.anyInFlight = true → s.blockReady = true

/-- The dimensions of a loaded block (R1); in NO_BLOCK all are 0. -/
abbrev State.BlockLaw (s : State) : Prop :=
  (s.block.state = .noBlock → s.block = .reset) ∧
    (s.block.state ≠ .noBlock → inRange 1 256 s.block.columns = true ∧ inRange 1 192 s.block.rows = true ∧
      inRange 40 160 s.block.pitch = true ∧ inRange 1 8 s.block.layers.length = true ∧
      (∀ l ∈ s.block.layers, inRange 1 2400 l.thickness = true ∧ inRange 1 15 l.grade = true) ∧
      s.block.top = stackTop s.block.layers ∧ s.block.top ≤ 2400) ∧
    (s.block.unloadVisit = true → s.block.state = .loaded)

/-- The cut map has its canonical form. -/
abbrev State.MapLaw (s : State) : Prop := CutMap.wf s.block.top s.cells

/-- No kerf floor lies above T, and every unsure cell is cut (R5, R137). -/
abbrev State.KerfLaw (s : State) : Prop :=
  ∀ e ∈ s.cells, e.2.kerfFloor ≤ s.block.top ∧ (e.2.unsure = true → e.2.kerfFloor < s.block.top)

/-- The number of in-flight records of a head whose footprint holds a cell (R45). -/
def State.claimsOn (s : State) (h : Head) (c : CellRef) : Nat :=
  (s.head h).inFlight.countP fun r => (s.recordFootprint r).contains c

/-- The claims on one cell: the owner alone has in-flight records over it, the count is their number, and a count
of 0 goes with no owner (R45). -/
abbrev State.ClaimsOf (s : State) (c : CellRef) : Prop :=
  (∀ h, s.claimsOn h c = if (s.cell c).owner = some h then (s.cell c).count else 0) ∧
    ((s.cell c).owner = none ↔ (s.cell c).count = 0)

/-- The law of the claim table (R45). -/
abbrev State.ClaimsLaw (s : State) : Prop :=
  ∀ row < s.block.rows, ∀ column < s.block.columns, s.ClaimsOf ⟨column, row⟩

/-- Every listed cell stands in the map: no write goes to a cell outside it (R40, R43, R147). -/
abbrev State.EntriesLaw (s : State) : Prop :=
  ∀ e ∈ s.cells, e.1 % 256 < s.block.columns ∧ e.1 / 256 < s.block.rows

/-- Both ends of every stroke in flight are in the block, and its record holds its path length (R63, R81). -/
abbrev State.FlightInBlock (s : State) : Prop :=
  ∀ h, ∀ r ∈ (s.head h).inFlight, inBlock s.block r.stroke.start = true ∧ inBlock s.block r.stroke.finish = true ∧
    r.pathLength = pathLength s.block r.stroke

/-- While the block is INITIALISING nothing is listed in the cut map, so that every cell reads as the visit leaves it
(R16, log entry 11), and no occasion stands (R62, log entry 12). -/
abbrev State.VisitLaw (s : State) : Prop := s.block.state = .initialising → s.cells = [] ∧ s.occasions = []

/-! ### Laws of the wait list, the links and the management slot -/

/-- A head stands in the wait list at most once, and only with a queued stroke in READY or CUTTING (R50, R52). -/
abbrev State.WaitLaw (s : State) : Prop :=
  (s.waitList.map WaitEntry.head).Nodup ∧
    ∀ e ∈ s.waitList, (s.head e.head).state.admits = true ∧ (s.head e.head).queue ≠ []

/-- At most 16 done slots are in use (R168). -/
abbrev State.SlotsLaw (s : State) : Prop := s.slotsInUse ≤ 16

/-- The issue numbers of a head's ISSUE frames that wait in the drive transmit queue (R88). -/
def State.waitingIssues (s : State) (h : Head) : List Byte :=
  s.drive.queue.filterMap fun f =>
    match f with
    | .issue g num _ _ _ _ _ _ => if g = h then some num else none
    | .halt _ => none

/-- The waiting ISSUE frames of a head are those of its newest records, in their order, and at most one HALT of it
waits (R88, R89). -/
abbrev State.DriveQueueLaw (s : State) : Prop :=
  ∀ h, s.waitingIssues h <:+ (s.head h).inFlight.map InFlight.issue ∧ s.drive.queue.count (.halt h) ≤ 1

/-- The pending slots are of enabled classes, each class once, with counts of 1 to 255 (R170, R172). -/
abbrev State.EventsLaw (s : State) : Prop :=
  (s.out.events.map EventSlot.cls).Nodup ∧
    ∀ e ∈ s.out.events, enabledIn s.out.enables e.cls = true ∧ inRange 1 255 e.first.count = true ∧
      (∀ o ∈ e.late, inRange 1 255 o.count = true) ∧ (e.late.isSome → e.sending = true)

/-- LINE HOLD is asserted exactly while MACHINE STOP is asserted, a head is in FAULT or RESET is low (R120, R186). -/
abbrev State.LineHoldLaw (s : State) : Prop :=
  s.pins.lineHold = true ↔
    s.pins.machineStop = true ∨ (∃ h, (s.head h).state = .fault) ∨ s.pins.resetLow = true

/-- The counters stay at 65535 (R167). -/
abbrev State.CountersLaw (s : State) : Prop :=
  s.counters.lineCrc ≤ 65535 ∧ s.counters.lineMalformed ≤ 65535 ∧ s.counters.driveCrc ≤ 65535 ∧
    s.counters.driveMalformed ≤ 65535

/-- The REPLY whose frame is on the line transmitter. -/
def LineFrame.replyOf : LineFrame → Option Reply
  | .reply r | .statusSecond r => some r
  | .done .. | .event .. => none

/-- The command slot holds a LOAD_BLOCK. -/
def holdsLoad : Option Instr → Bool
  | some (.loadBlock ..) => true
  | some _ | none => false

/-- The command slot holds an UNLOAD_BLOCK. -/
def holdsUnload : Option Instr → Bool
  | some (.unloadBlock ..) => true
  | some _ | none => false

/-- The command slot holds a HOLD_HEAD of head h. -/
def holdsHold (h : Head) : Option Instr → Bool
  | some (.holdHead _ (.given ops)) => ops.head == h
  | some _ | none => false

/-- The command slot against the reply slot, the line transmitter and the three long commands: a REPLY on the
transmitter stands in the reply slot, a REPLY answers the command in the slot, and a long command that waits holds
the slot with no REPLY (R153, R154, R158). -/
abbrev State.SlotLaw (s : State) : Prop :=
  (∀ p ∈ s.out.tx, ∀ r ∈ p.frame.replyOf, s.out.replySlot = some r) ∧
    (∀ r ∈ s.out.replySlot, s.mgmt.slot.isSome = true) ∧
    (s.block.state = .initialising → holdsLoad s.mgmt.slot = true ∧ s.out.replySlot = none) ∧
    (s.block.unloadVisit = true → holdsUnload s.mgmt.slot = true ∧ s.out.replySlot = none) ∧
    ∀ h, (s.head h).holdReplyOwed = true →
      holdsHold h s.mgmt.slot = true ∧ s.out.replySlot = none ∧ (s.head h).state = .held ∧ (s.head h).inFlight ≠ []

/-- The class and record of an EVENT frame. -/
def LineFrame.eventOf : LineFrame → Option (EventClass × Occurrence)
  | .event cls record _ => some (cls, record)
  | .reply .. | .statusSecond .. | .done .. => none

/-- A slot is being sent only while its EVENT frame is on the line transmitter (R171). -/
abbrev State.SendingLaw (s : State) : Prop :=
  ∀ e ∈ s.out.events, e.sending = true → (s.out.tx.bind fun p => p.frame.eventOf) = some (e.cls, e.first)

/-- While RESET is high, a slot is being sent only while its EVENT frame is on the line transmitter; the line
transmitter is idle only when no frame is ready for it, and the drive transmitter only when none waits for it (R88,
R171, R173). -/
abbrev State.NoIdleLaw (s : State) : Prop :=
  s.pins.resetLow = false →
    s.SendingLaw ∧
    (s.out.tx = none → s.out.replySlot = none ∧ s.out.notices = [] ∧ s.out.events = []) ∧
    (s.drive.tx = none → s.drive.queue = [])

/-- A receiver reads a payload of at most 48 bytes, and holds at most its bytes and one CRC byte (R165, R175). -/
def receiverInBounds : Receiver → Bool
  | .hunting | .delimited => true
  | .sizedBy n => n ≤ 48
  | .inside n _ got => n ≤ 48 && got.length ≤ n + 1

/-- Both receivers are within a frame of the envelope (R165, R175). -/
abbrev State.ReceiversLaw (s : State) : Prop :=
  receiverInBounds s.receivers.line = true ∧ receiverInBounds s.receivers.drive = true

/-! ### The links after a command -/

/-- The receivers after a command: both hunt after RESET is low and after power-on reset, that of a link after a frame
of it has been dropped; every other command, RESET_PART among them, lets them carry on (R165, R174, R186). -/
def State.receiversAfter (s : State) (c : Instr) : Receivers :=
  match c with
  | .resetPinLow | .powerOnReset => ⟨.hunting, .hunting⟩
  | .corruptFrame link _ | .lengthAbove48 link _ | .receiveGap link =>
    if s.pins.resetLow then s.receivers else s.receivers.put .hunting link
  | .driveFault _ _ code => if s.pins.resetLow || code ≠ 0 then s.receivers else s.receivers.put .hunting .drive
  | _ => s.receivers

/-- A command finds the line transmitter free, or is the end of the frame on it and no second frame of a status record
follows (R154, R169, R171, R181). -/
abbrev State.FreesLine (s : State) (c : Instr) : Prop :=
  s.out.tx = none ∨ ∃ p, s.out.tx = some p ∧
    ((c = .replySent ∧ ∃ r, p.frame = .statusSecond r ∨ p.frame = .reply r ∧ ∀ record, r.results ≠ .readStatus record) ∨
      (c = .doneSent ∧ ∃ n jobTag, p.frame = .done n jobTag) ∨
      (c = .eventSent ∧ ∃ cls o jobTag, p.frame = .event cls o jobTag))

/-- The frame on the line transmitter is the first in the order of R173 among those of the state: the oldest HEAD_FAULT
slot, the REPLY, the oldest notice, the oldest other slot; it is idle when there is none. -/
abbrev State.SendsFirst (s : State) : Prop :=
  let sent := s.out.tx.map PlacedFrame.frame
  let faults := s.out.events.filter EventSlot.isHeadFault
  (∀ e more, faults = e :: more → sent = some (.event e.cls e.first s.mgmt.jobTag)) ∧
  (∀ r, faults = [] → s.out.replySlot = some r → sent = some (.reply r)) ∧
  (∀ n more, faults = [] → s.out.replySlot = none → s.out.notices = n :: more →
    sent = some (.done n.notice s.mgmt.jobTag)) ∧
  (∀ e more, faults = [] → s.out.replySlot = none → s.out.notices = [] → s.out.events = e :: more →
    sent = some (.event e.cls e.first s.mgmt.jobTag)) ∧
  (s.out.events = [] → s.out.replySlot = none → s.out.notices = [] → sent = none)

/-! ### What a step leaves as it was -/

/-- A pending slot's class, record and late record; whether its frame is being sent is left out. -/
def EventSlot.content (e : EventSlot) : EventClass × Occurrence × Option Occurrence := (e.cls, e.first, e.late)

/-- The event pending set, oldest first. -/
def State.eventContents (s : State) : List (EventClass × Occurrence × Option Occurrence) :=
  s.out.events.map EventSlot.content

/-- The event pending set after an occurrence of a class (R170, R171). -/
def State.eventsWith (s : State) (cls : EventClass) (d : Details) :
    List (EventClass × Occurrence × Option Occurrence) :=
  (s.out.raise cls d).events.map EventSlot.content

/-- The queued notices, oldest first. -/
def State.noticeContents (s : State) : List Notice := s.out.notices.map QueuedNotice.notice

/-- The frame on the drive transmitter and those that wait for it, in the order they are sent. -/
def State.driveFrames (s : State) : List DriveFrame := s.drive.tx.toList ++ s.drive.queue

/-- The block record and every cell of the cut map are as they were. -/
abbrev SameMap (s t : State) : Prop := t.block = s.block ∧ t.cells = s.cells

/-- The grade table, the tag windows and the source records are as they were. -/
abbrev SameTables (s t : State) : Prop := t.grades = s.grades ∧ t.windows = s.windows ∧ t.sources = s.sources

/-- The records of the heads other than h are as they were. -/
abbrev SameOtherHeads (h : Head) (s t : State) : Prop := ∀ g, g ≠ h → t.head g = s.head g

/-- The wait list and the occasions are as they were. -/
abbrev SameAdmission (s t : State) : Prop := t.waitList = s.waitList ∧ t.occasions = s.occasions

/-- The event pending set is as it was. -/
abbrev SameEvents (s t : State) : Prop := t.eventContents = s.eventContents

/-- The queued notices are as they were. -/
abbrev SameNotices (s t : State) : Prop := t.noticeContents = s.noticeContents

/-- The command slot, the job tag, the kept count and the reply slot are as they were. -/
abbrev SameManagement (s t : State) : Prop := t.mgmt = s.mgmt ∧ t.out.replySlot = s.out.replySlot

/-- The input levels, the class enables, the link counters and the waiting commands are as they were. -/
abbrev SameRest (s t : State) : Prop :=
  t.pins.resetLow = s.pins.resetLow ∧ t.pins.machineStop = s.pins.machineStop ∧ t.out.enables = s.out.enables ∧
    t.counters = s.counters ∧ t.pending = s.pending

/-- The frames of the drive link are as they were. -/
abbrev SameDrive (s t : State) : Prop := t.driveFrames = s.driveFrames

/-- A MANAGE command has been taken into the slot and answered (R153, R157). -/
abbrev Answered (c : Instr) (reply : Reply) (s t : State) : Prop :=
  t.mgmt = { s.mgmt with slot := some c } ∧ t.out.replySlot = some reply

/-- A refused command changes nothing but the slot and the reply slot (R157). -/
abbrev RefusedWith (c : Instr) (hdr : Header) (code : Byte) (status : Status) (s t : State) : Prop :=
  Answered c ⟨hdr.seq, code, status, .none⟩ s t ∧ SameMap s t ∧ SameTables s t ∧ t.heads = s.heads ∧
    SameAdmission s t ∧ SameEvents s t ∧ SameNotices s t ∧ SameDrive s t ∧ SameRest s t

/-- RESET is high and the command slot is empty, so that the part takes a MANAGE command (R153, R186). -/
abbrev State.Listens (s : State) : Prop := s.pins.resetLow = false ∧ s.mgmt.slot = none

/-- A command of the part runs: RESET is high (R186). -/
abbrev State.Runs (s : State) : Prop := s.pins.resetLow = false

/-- The occasions that are kept of those raised: none while the block is INITIALISING (R62). -/
def State.kept (s : State) (raised : List Occasion) : List Occasion :=
  if s.block.state = .initialising then [] else raised

/-- The pass of the other heads that a removed wait entry of head h brings, if it had one (R52). -/
def State.passAfterWait (s : State) (h : Head) : List Occasion :=
  if s.waits h then s.kept [.pass (some h)] else []

/-- The wait list without the entry of head h (R52). -/
def State.waitsWithout (s : State) (h : Head) : List WaitEntry := s.waitList.filter fun e => e.head != h

/-! ### Cells -/

/-- The path height of a stroke at a cell among its path cells 0 to k − 1, if the cell is one of them (R41, R91). -/
def heightAt (b : BlockRecord) (st : Stroke) (k : Nat) (c : CellRef) : Option Nat :=
  (((path b st).take k).find? fun p => p.cell == c).map PathCell.height

/-- The kerf floor after a commit or a resolution at a path height, if there is one (R91, R137). -/
def loweredTo (kerf : Nat) : Option Nat → Nat
  | some z => min kerf z
  | none => kerf

/-- The cell of a map after k cells of a record have been committed and its claims released (R47, R91). -/
def State.cellAfterReport (s : State) (r : InFlight) (k : Nat) (c : CellRef) : Cell :=
  let x := s.cell c
  let left := if (s.recordFootprint r).contains c then x.count - 1 else x.count
  { x with
    kerfFloor := if r.stroke.kind = .cut then loweredTo x.kerfFloor (heightAt s.block r.stroke k c) else x.kerfFloor
    count := left
    owner := if (s.recordFootprint r).contains c ∧ left = 0 then none else x.owner }

/-- The cell of a map after a record has been resolved (R47, R137). -/
def State.cellResolved (s : State) (c : CellRef) (x : Cell) (r : InFlight) : Cell :=
  let kerf := if r.stroke.kind = .cut then loweredTo x.kerfFloor (heightAt s.block r.stroke (r.pathLength + 1) c)
    else x.kerfFloor
  let left := if (s.recordFootprint r).contains c then x.count - 1 else x.count
  { x with
    kerfFloor := kerf
    unsure := x.unsure || kerf < x.kerfFloor
    count := left
    owner := if (s.recordFootprint r).contains c ∧ left = 0 then none else x.owner }

/-! ### Reports -/

/-- The list after its oldest record has left: the next record, now the oldest, has its overdue limit (R86, R113). -/
def HeadRecord.listAfter (hd : HeadRecord) : List InFlight :=
  match hd.inFlight.tail with
  | [] => []
  | r :: rest => { r with overdueLimit := some (overdueLimit hd.timerSettings r) } :: rest

/-- A running status-gap timer starts anew with the present gap limit (R112). -/
def HeadRecord.gapRestarted (hd : HeadRecord) : GapTimer :=
  match hd.gapTimer with
  | .stopped => .stopped
  | .running _ => .running hd.timerSettings.gapLimit

/-- A head's record after a report has removed its oldest in-flight record, but for the monitor: the list, the
reported position, the timers, the halt flag, the state and the hold debt (R92, R94, R95, R112, R114, R127). -/
def HeadRecord.afterReport (reported : Point) (hd : HeadRecord) : HeadRecord :=
  let emptied := hd.inFlight.tail.isEmpty
  { hd with
    inFlight := hd.listAfter
    reported := ⟨reported, true⟩
    overdueRunning := !emptied && hd.state != .fault
    gapTimer := if emptied then .stopped else hd.gapRestarted
    haltOutstanding := hd.haltOutstanding && !emptied
    state := if emptied && hd.state == .cutting then .ready else hd.state
    holdReplyOwed := hd.holdReplyOwed && !(emptied && hd.state == .held) }

/-- The ISSUE frame of a record no longer waits (R88). -/
def State.framesWithdrawn (s : State) (h : Head) (issue : Byte) : List DriveFrame :=
  s.drive.tx.toList ++ s.drive.queue.filter fun f => !f.isIssueOf h issue

/-- The notices after a record has left the list with an outcome (R96). -/
def State.noticesWith (s : State) (r : InFlight) (outcome : StrokeOutcome) (cells : Option Nat) : List Notice :=
  s.noticeContents ++
    if r.reserved then [⟨r.stroke.head, r.issue, r.stroke.tag, outcome, cells, r.ratedFeed⟩] else []

/-! ### Operand tests -/

/-- The operands that a LOAD_BLOCK is not refused for (R14). -/
abbrev LoadOperandsPass (ops : LoadBlockOps) : Prop :=
  (1 ≤ ops.columns.toNat ∧ ops.columns.toNat ≤ 256) ∧ (1 ≤ ops.rows.toNat ∧ ops.rows.toNat ≤ 192) ∧
    (40 ≤ ops.pitch.toNat ∧ ops.pitch.toNat ≤ 160) ∧ (1 ≤ ops.layers.length ∧ ops.layers.length ≤ 8) ∧
    (∀ l ∈ ops.layers, 1 ≤ l.thickness.toNat ∧ l.thickness.toNat ≤ 2400 ∧ 1 ≤ l.grade.toNat ∧ l.grade.toNat ≤ 15) ∧
    (ops.layers.map fun l => l.thickness.toNat).sum ≤ 2400

/-- The operands that a WRITE_GRADE is not refused for (R12). -/
abbrev GradeOperandsPass (ops : WriteGradeOps) : Prop :=
  ops.grade.toNat ≤ 15 ∧ (ops.clear = true → ops.grade.toNat ≠ 0) ∧
    (ops.clear = false → ops.bite.toNat ≠ 0 ∧ ops.dragLow.toNat ≤ ops.dragHigh.toNat ∧ ops.dragLow.toNat ≤ 1023 ∧
      ops.dragHigh.toNat ≤ 1023)

/-- The operands that a SET_HEAD is not refused for (R121). -/
abbrev HeadOperandsPass (ops : SetHeadOps) : Prop :=
  ops.guard.toNat ≤ 7 ∧ (10 ≤ ops.rate.toNat ∧ ops.rate.toNat ≤ 80) ∧
    (1 ≤ ops.travelMax.toNat ∧ ops.travelMax.toNat ≤ 4095) ∧ ops.lowWater.toNat ≤ 31

/-- The enable target does not refuse a SET_HEAD (R122). -/
abbrev EnablePasses (hd : HeadRecord) (machineStop enable : Bool) : Prop :=
  (hd.state = .off → enable = true → machineStop = false) ∧
    ((hd.state = .ready ∨ hd.state = .cutting ∨ hd.state = .held) → enable = false → hd.inFlight = []) ∧
    (hd.state = .fault → enable = true)

/-- The head state after a SET_HEAD that is taken (R122). -/
def stateEnabled (state : HeadState) (enable : Bool) : HeadState :=
  match state, enable with
  | .off, true => .ready
  | .ready, true => .ready
  | .cutting, true => .cutting
  | .held, true => .held
  | .fault, _ => .fault
  | _, false => .off

/-- The operands that a SET_MONITOR is not refused for (R115). -/
abbrev MonitorOperandsPass (ops : SetMonitorOps) : Prop :=
  (1 ≤ ops.highDebounce.toNat ∧ ops.highDebounce.toNat ≤ 15) ∧
    (1 ≤ ops.lowDebounce.toNat ∧ ops.lowDebounce.toNat ≤ 15) ∧
    (1 ≤ ops.stallDebounce.toNat ∧ ops.stallDebounce.toNat ≤ 15) ∧
    (1 ≤ ops.stepDownCount.toNat ∧ ops.stepDownCount.toNat ≤ 15) ∧
    (5 ≤ ops.tolerance.toNat ∧ ops.tolerance.toNat ≤ 50)

/-- The operands that a SET_TIMERS is not refused for (R116). -/
abbrev TimersOperandsPass (ops : SetTimersOps) : Prop :=
  (5 ≤ ops.gapLimit.toNat ∧ ops.gapLimit.toNat ≤ 1000) ∧ (4 ≤ ops.factor.toNat ∧ ops.factor.toNat ≤ 16) ∧
    (50 ≤ ops.allowance.toNat ∧ ops.allowance.toNat ≤ 5000)

/-! ### Admission -/

/-- Checks 1 to 3 of a head pass (R63). -/
abbrev State.HeadAdmits (s : State) (h : Head) : Prop :=
  s.block.state = .loaded ∧ s.block.unloadVisit = false ∧ ((s.head h).state = .ready ∨ (s.head h).state = .cutting) ∧
    (s.head h).inFlight.length < 2

/-- Checks 4 and 5 pass (R66). -/
abbrev State.StartsInPlace (s : State) (h : Head) (st : Stroke) : Prop :=
  (s.head h).chainEnd.valid = true ∧ st.start = (s.head h).chainEnd.point

/-- Checks 6 and 7 pass (R67). -/
abbrev State.LiesInBlock (s : State) (st : Stroke) : Prop :=
  inBlock s.block st.start = true ∧ inBlock s.block st.finish = true ∧ pathLength s.block st ≤ 255

/-- Check 8 passes (R68). -/
abbrev State.ClearsBlock (s : State) (h : Head) (st : Stroke) : Prop :=
  s.block.top + (s.head h).settings.clearance ≤ st.start.z.toNat ∧
    s.block.top + (s.head h).settings.clearance ≤ st.finish.z.toNat

/-- Check 9 passes (R69). -/
abbrev State.ZonesAllowed (s : State) (h : Head) (st : Stroke) : Prop :=
  ∀ p ∈ path s.block st, (s.head h).settings.zoneSet.getLsbD (s.cell p.cell).zone = true

/-- Check 10 passes (R70). -/
abbrev State.FloorsKept (s : State) (st : Stroke) : Prop :=
  ∀ p ∈ path s.block st, (s.cell p.cell).floorLimit ≤ p.height

/-- Check 11 passes (R75). -/
abbrev State.GradesSet (s : State) (st : Stroke) : Prop :=
  ∀ g ∈ s.gradesMet st, (gradeEntry s.grades g).set = true

/-- The rating of a CUT stroke: a grade with the smallest bite among the grades met, the lowest-numbered of those,
its drag window, and the smaller of the requested feed and the cap (R74, R76). -/
abbrev State.CutRating (s : State) (h : Head) (st : Stroke) (r : Rating) : Prop :=
  ∃ g, g ∈ s.gradesMet st ∧
    (∀ g' ∈ s.gradesMet st, (gradeEntry s.grades g).bite < (gradeEntry s.grades g').bite ∨
      (gradeEntry s.grades g).bite = (gradeEntry s.grades g').bite ∧ g ≤ g') ∧
    r.dominant = some g ∧
    r.window = some ⟨(gradeEntry s.grades g).dragLow, (gradeEntry s.grades g).dragHigh⟩ ∧
    r.feed = min st.feed.toNat ((gradeEntry s.grades g).bite * (s.head h).settings.rate *
      [100, 75, 50, 25].getD (s.head h).monitor.derate 25 / 10000)

/-- The rating of a TRAVEL stroke (R77). -/
abbrev State.TravelRating (s : State) (h : Head) (st : Stroke) (r : Rating) : Prop :=
  r.dominant = none ∧ r.window = none ∧ r.feed = min st.feed.toNat (s.head h).settings.travelMax

/-- Checks 1 to 12 pass for a stroke at the front of a head's queue, with its rating (R63). -/
abbrev State.PassesRating (s : State) (h : Head) (st : Stroke) (r : Rating) : Prop :=
  s.HeadAdmits h ∧ s.StartsInPlace h st ∧ s.LiesInBlock st ∧
    (st.kind = .travel → s.ClearsBlock h st ∧ s.TravelRating h st r) ∧
    (st.kind = .cut → s.ZonesAllowed h st ∧ s.FloorsKept st ∧ s.GradesSet st ∧ s.CutRating h st r) ∧ 1 ≤ r.feed

/-- A stroke's footprint with its head's present guard (R43, R79). -/
def State.footprintNow (s : State) (h : Head) (st : Stroke) : List CellRef :=
  footprint s.block st (s.head h).settings.guard

/-- Check 14 passes (R48, R79). -/
abbrev State.Unclaimed (s : State) (h : Head) (st : Stroke) : Prop :=
  ∀ c ∈ s.footprintNow h st, ∀ g, (s.cell c).owner = some g → g = h ∨ (s.cell c).count = 0

/-- Check 15 passes (R53). -/
abbrev State.Unyielding (s : State) (h : Head) (st : Stroke) : Prop :=
  ∀ e ∈ s.olderWaiters h, ∀ c ∈ s.footprintNow h st, c ∉ e.footprint

/-- Everything that a refusal of a head's front stroke does; `rest` are the occasions that stood (R71, R72). -/
abbrev StrokeRefused (h : Head) (q : QueuedStroke) (reason : RefusalReason) (rest : List Occasion)
    (s t : State) : Prop :=
  t.head h = { s.head h with queue := (s.head h).queue.tail, state := .held, holdCause := some .refused } ∧
    SameOtherHeads h s t ∧ t.waitList = s.waitsWithout h ∧ t.occasions = rest ++ [.pass (some h)] ∧
    t.eventContents = s.eventsWith (.ofHead .strokeRefused h) (.strokeRefused q.stroke.tag reason) ∧ SameMap s t ∧
    SameTables s t ∧ SameNotices s t ∧ SameManagement s t ∧ SameDrive s t ∧ SameRest s t

/-- A STATUS frame of a head is a checked sample of the record r (R103). -/
abbrev State.Checked (s : State) (h : Head) (executing : Option Byte) (r : InFlight) : Prop :=
  ((s.head h).state = .ready ∨ (s.head h).state = .cutting ∨ (s.head h).state = .held) ∧
    (s.head h).inFlight.head? = some r ∧ executing = some r.issue ∧ (s.head h).haltOutstanding = false ∧
    r.stroke.kind = .cut

/-- A checked sample is short of blade cycles under the head's tolerance (R109). -/
abbrev State.ShortOf (s : State) (h : Head) (r : InFlight) (cycles ms : Nat) : Prop :=
  cycles * 100000 < r.rate * ms * (100 - (s.head h).monitorSettings.tolerance)

/-- The head takes faults as fault entries (R131). -/
abbrev HeadRecord.TakesFaults (hd : HeadRecord) : Prop := hd.state = .ready ∨ hd.state = .cutting ∨ hd.state = .held

/-! ### Paths -/

/-- A coordinate x is i of n steps on the way from a to b: a + i · (b − a) / n, the quotient rounded to the nearest
whole number and, at a half, away from zero (R40, R41, 00). -/
abbrev RoundedStep (a b i n x : Nat) : Prop :=
  (a ≤ b → a ≤ x ∧ 2 * n * (x - a) ≤ 2 * i * (b - a) + n ∧ 2 * i * (b - a) + n < 2 * n * (x - a + 1)) ∧
    (b ≤ a → x ≤ a ∧ 2 * n * (a - x) ≤ 2 * i * (a - b) + n ∧ 2 * i * (a - b) + n < 2 * n * (a - x + 1))

/-! ### Fault entry -/

/-- The frames of the drive link after a halt request for a head whose record the request finds as `hd` (R89). -/
def State.framesHalted (s : State) (h : Head) (hd : HeadRecord) : List DriveFrame :=
  if hd.haltOutstanding || s.drive.queue.contains (.halt h) then s.driveFrames else s.driveFrames ++ [.halt h]

/-- A head's record after fault entry (R131): the latch, the state, the halt-outstanding flag of R89, the timers
and the hold debt; the rest is as it was. -/
def HeadRecord.faulted (cause : FaultCause) (issue : Option Byte) (code : Byte) (hd : HeadRecord) : HeadRecord :=
  { hd with
    latch := ⟨some cause, issue, code⟩
    state := .fault
    holdCause := none
    haltOutstanding := hd.haltOutstanding || !hd.inFlight.isEmpty
    gapTimer := .stopped
    overdueRunning := false
    holdReplyOwed := false }

/-- The REPLY slot after the command in the slot is answered (R157). -/
def State.replyWith (s : State) (status : Status) (results : Results) : Option Reply :=
  match s.mgmt.slot with
  | none => s.out.replySlot
  | some c =>
    match c.header?, c.code? with
    | some hdr, some code => some ⟨hdr.seq, code, status, results⟩
    | some _, none | none, some _ | none, none => s.out.replySlot

/-- The heads that take a fault as a fault entry, in head-number order (R131, R134). -/
def State.faultTakers (s : State) : List Head :=
  ([0, 1, 2, 3] : List Head).filter fun h =>
    (s.head h).state == .ready || (s.head h).state == .cutting || (s.head h).state == .held

/-- Everything that the fault entry of one head does (R131, R133); `hd` is the head's record as the fault finds it. -/
abbrev FaultEntered (h : Head) (cause : FaultCause) (issue : Option Byte) (code : Byte) (hd : HeadRecord)
    (s t : State) : Prop :=
  t.head h = hd.faulted cause issue code ∧ SameOtherHeads h s t ∧ t.driveFrames = s.framesHalted h hd ∧
    t.waitList = s.waitsWithout h ∧ t.occasions = s.occasions ++ s.passAfterWait h ∧ t.mgmt = s.mgmt ∧
    t.out.replySlot = (if hd.holdReplyOwed then s.replyWith .faulted (.holdFaulted cause) else s.out.replySlot) ∧
    t.eventContents = s.eventsWith (.ofHead .headFault h) (.headFault cause issue code) ∧
    t.pins.lineHold = true ∧ SameMap s t ∧ SameTables s t ∧ SameNotices s t ∧ SameRest s t

end Sys2Proof.Machine
end

