-- ==== Sys2Proof/Certificates/Slice0/Obligations.lean ====
section
/-! DEFINITION. The statements about the part that the provers are asked to settle. -/

open Sys2Proof Sys2Proof.Machine

/-! ### The step and the resets -/

/-- A step carries out the command at the front of the queue on the state with the queue's rest. On an empty queue the
next signal reaches its receiver (log entry 5), and with none the block idles (log entry 4): both are the model's
choice. -/
def Obligations.StepTakesFrontCommand : Prop :=
  (∀ (c : Instr) (rest : List Instr) (s : State), step (s.withPending (c :: rest)) = exec c (s.withPending rest)) ∧
    (∀ (x : Signal) (more : List Signal) (s : State), s.pending = [] → s.arriving = x :: more →
      step s = .next ((s.withArriving more).hear x)) ∧
    ∀ s : State, s.pending = [] → s.arriving = [] → step s = .next s

/-- Every command answers a next state in every state, and leaves the queue of waiting commands and the signals on
their way as they were. The receivers hunt after RESET is low and after power-on reset, the receiver of a link after a
dropped frame of it, and every other command, RESET_PART among them, lets them carry on (R165, R174, R186; log
entries 5 and 8). -/
def Obligations.EveryCommandAnswersNext : Prop :=
  ∀ (c : Instr) (s : State), ∃ t, exec c s = .next t ∧ t.pending = s.pending ∧ t.arriving = s.arriving ∧
    t.receivers = s.receiversAfter c

/-- While RESET is low LINE HOLD is asserted, both transmitters are idle, the receivers have abandoned their frames and
ignore the lines, and the part takes no frame (R186). That no unit acts either, and that a MACHINE STOP level is taken
without an edge, is the model's reading (log entry 8). -/
def Obligations.ResetLowStopsThePart : Prop :=
  (∀ s : State, ∃ t, exec .resetPinLow s = .next t ∧ t.pins.resetLow = true ∧ t.pins.lineHold = true ∧
      t.out.tx = none ∧ t.drive.tx = none ∧ t.receivers = ⟨.hunting, .hunting⟩ ∧ t.block.unloadVisit = false ∧
      t.occasions = [] ∧ t.pins.machineStop = s.pins.machineStop) ∧
    (∀ (x : Signal) (s : State), s.pins.resetLow = true → s.hear x = s) ∧
    (∀ (c : Instr) (s : State), s.pins.resetLow = true → c ≠ .resetPinLow → c ≠ .powerOnReset →
      c ≠ .machineStopAsserted → c ≠ .machineStopDeasserted → exec c s = .next s) ∧
    ∀ s : State, s.pins.resetLow = true →
      exec .machineStopAsserted s = .next (s.withPins { s.pins with machineStop := true }) ∧
      exec .machineStopDeasserted s = .next (s.withPins { s.pins with machineStop := false })

/-- Power-on reset gives every piece of state its reset value; LINE HOLD follows the MACHINE STOP level (R186, R120).
The model's own: the level of that input stays as it is and the count kept for a LOAD_BLOCK is 0 (log entry 7), the
waiting commands (log entry 4), the signals on their way (log entry 5) and the count of free values (log entry 9) stay,
and the reset is taken in any state (log entry 8). -/
def Obligations.PowerOnResetRestoresReset : Prop :=
  ∀ s : State, exec .powerOnReset s =
    .next { State.reset with
      pending := s.pending
      arriving := s.arriving
      fresh := s.fresh
      pins := { resetLow := false, machineStop := s.pins.machineStop, lineHold := s.pins.machineStop } }

/-- The values of power-on reset, piece by piece (R1, R10, R28, R38, R50, R83, R101, R102, R119, R121, R141, R153, R162,
R167, R174, R186). MACHINE STOP stands deasserted and the kept count at 0 by the model's choice (log entry 7), and the
model's own queues are empty (log entries 4 and 5). -/
def Obligations.ResetStateValues : Prop :=
  let s := State.reset
  s.block = { state := .noBlock, columns := 0, rows := 0, pitch := 0, layers := [], top := 0, unloadVisit := false } ∧
    s.cells = [] ∧
    (∀ k : Fin 16, s.grades.get k = if k.val = 0 then ⟨true, 2000, 0, 1023⟩ else ⟨false, 0, 0, 0⟩) ∧
    (∀ k : Fin 4, s.windows.get k = ⟨false, 0, 0⟩ ∧ s.sources.get k = ⟨0, 0, 0⟩) ∧
    (∀ h : Head, s.head h =
      { state := .off, holdCause := none, latch := ⟨none, none, 0⟩, furtherFaults := 0, holdReplyOwed := false
        settings := { zoneSet := 0xFFFF, guard := 2, rate := 40, travelMax := 1000, clearance := 20, lowWater := 4 }
        queue := [], chainEnd := ⟨⟨0, 0, 0⟩, false⟩, reported := ⟨⟨0, 0, 0⟩, false⟩, inFlight := []
        issueCounter := 0, haltOutstanding := false
        monitor := { highRun := 0, lowRun := 0, stallRun := 0, cleanCount := 0, derate := 0 }
        gapTimer := .stopped, overdueRunning := false
        monitorSettings :=
          { highDebounce := 3, lowDebounce := 4, stallDebounce := 2, stepDownCount := 4, tolerance := 20 }
        timerSettings := { gapLimit := 100, factor := 8, allowance := 500 } }) ∧
    s.waitList = [] ∧ s.occasions = [] ∧ s.mgmt = { slot := none, loadFlushed := 0, jobTag := 0 } ∧
    s.counters = ⟨0, 0, 0, 0⟩ ∧
    s.out = { replySlot := none, notices := [], events := [], enables := 0xFFFFFF, tx := none } ∧
    s.drive = ⟨[], none⟩ ∧ s.pins = ⟨false, false, false⟩ ∧ s.receivers = ⟨.hunting, .hunting⟩ ∧ s.pending = [] ∧
    s.arriving = []

/-- The state after reset keeps every law that the other statements show to be kept. -/
def Obligations.ResetKeepsEveryLaw : Prop :=
  let s := State.reset
  s.HeadsLawful ∧ s.RangesLaw ∧ s.QueuesLaw ∧ s.RecordsLaw ∧ s.FlightLaw ∧ s.FlightInBlock ∧ s.BlockLaw ∧ s.MapLaw ∧
    s.KerfLaw ∧ s.EntriesLaw ∧ s.ClaimsLaw ∧ s.WaitLaw ∧ s.SlotsLaw ∧ s.DriveQueueLaw ∧ s.EventsLaw ∧
    s.LineHoldLaw ∧ s.CountersLaw ∧ s.SlotLaw ∧ s.NoIdleLaw ∧ s.VisitLaw ∧ s.ReceiversLaw

/-- RESET_PART is refused BUSY_CUTTING while a stroke is in flight. Else it returns the part to its reset values,
keeps the command slot and the frames on the two transmitters, lets the receivers carry on, and places its REPLY
(R163, R164, R174). -/
def Obligations.ResetPartReturnsThePart : Prop :=
  ∀ (hdr : Header) (s : State), s.Listens →
    let c := Instr.resetPart hdr (.given .mk)
    ((∃ h, (s.head h).inFlight ≠ []) → ∃ t, exec c s = .next t ∧ RefusedWith c hdr 0x3F .busyCutting s t) ∧
    ((∀ h, (s.head h).inFlight = []) → ∃ t, exec c s = .next t ∧
      t.block = State.reset.block ∧ t.cells = [] ∧ t.grades = State.reset.grades ∧
      t.windows = State.reset.windows ∧ t.sources = State.reset.sources ∧ t.heads = State.reset.heads ∧
      t.waitList = [] ∧ t.occasions = [] ∧ t.counters = ⟨0, 0, 0, 0⟩ ∧ t.mgmt.jobTag = 0 ∧ t.mgmt.slot = some c ∧
      t.out.replySlot = some ⟨hdr.seq, 0x3F, .ok, .none⟩ ∧ t.out.notices = [] ∧ t.out.events = [] ∧
      t.out.enables = 0xFFFFFF ∧ (∀ p, s.out.tx = some p → t.out.tx = some p) ∧ t.drive.queue = [] ∧
      t.drive.tx = s.drive.tx ∧ t.pins = { s.pins with lineHold := s.pins.machineStop } ∧
      t.receivers = s.receivers ∧ t.pending = s.pending)

/-! ### The command slot -/

/-- A MANAGE command that meets an occupied slot is dropped: MGMT_OVERRUN records its code and sequence byte, and
nothing else changes (R153, R155). -/
def Obligations.OccupiedSlotDropsCommand : Prop :=
  ∀ (c held : Instr) (hdr : Header) (code : Byte) (s : State), s.Runs → s.mgmt.slot = some held →
    c.header? = some hdr → c.code? = some code →
    ∃ t, exec c s = .next t ∧ t.eventContents = s.eventsWith (.ofPart .mgmtOverrun) (.mgmtOverrun code hdr.seq) ∧
      SameManagement s t ∧ SameMap s t ∧ SameTables s t ∧ t.heads = s.heads ∧ SameAdmission s t ∧
      SameNotices s t ∧ SameDrive s t ∧ SameRest s t

/-- The management unit's two tests: a code that names no command is answered BAD_COMMAND, and operands of the wrong
length BAD_OPERAND; nothing else changes (R156, R157). -/
def Obligations.ManagementUnitTests : Prop :=
  (∀ (hdr : Header) (code : Byte) (s : State), s.Listens → ∃ t, exec (.badCommand hdr code) s = .next t ∧
      RefusedWith (.badCommand hdr code) hdr code .badCommand s t) ∧
    ∀ (c : Instr) (hdr : Header) (code : Byte) (s : State), s.Listens → c.code? = some code →
      (c = .loadBlock hdr .wrongLength ∨ c = .unloadBlock hdr .wrongLength ∨ c = .writeGrade hdr .wrongLength ∨
        c = .setNotifyWindow hdr .wrongLength ∨ c = .flushQueue hdr .wrongLength ∨ c = .setHead hdr .wrongLength ∨
        c = .setPosition hdr .wrongLength ∨ c = .holdHead hdr .wrongLength ∨ c = .releaseHead hdr .wrongLength ∨
        c = .clearHead hdr .wrongLength ∨ c = .setMonitor hdr .wrongLength ∨ c = .setTimers hdr .wrongLength ∨
        c = .setPreset hdr .wrongLength ∨ c = .setSource hdr .wrongLength ∨ c = .spanWrite hdr .wrongLength ∨
        c = .spanQuery hdr .wrongLength ∨ c = .readCell hdr .wrongLength ∨ c = .setEvents hdr .wrongLength ∨
        c = .readStatus hdr .wrongLength ∨ c = .setJobTag hdr .wrongLength ∨ c = .resetPart hdr .wrongLength) →
      ∃ t, exec c s = .next t ∧ RefusedWith c hdr code .badOperand s t

/-- READ_STATUS answers with the status record, every field as it stands, and changes nothing but the counters that
it is asked to clear (R160). -/
def Obligations.ReadStatusReturnsTheRecord : Prop :=
  ∀ (hdr : Header) (ops : ReadStatusOps) (s : State), s.Listens →
    let c := Instr.readStatus hdr (.given ops)
    ∃ t record, exec c s = .next t ∧ Answered c ⟨hdr.seq, 0x30, .ok, .readStatus record⟩ s t ∧
      record.blockState = s.block.state ∧ record.slotsInUse = s.slotsInUse ∧
      record.machineStop = s.pins.machineStop ∧ record.lineHold = s.pins.lineHold ∧
      record.counters = s.counters ∧ record.jobTag = s.mgmt.jobTag ∧
      (∀ h, (record.heads.get h).state = (s.head h).state ∧
        ((s.head h).state = .held → ∀ x, (s.head h).holdCause = some x → (record.heads.get h).cause = .hold x) ∧
        ((s.head h).state = .fault → ∀ x, (s.head h).latch.cause = some x → (record.heads.get h).cause = .fault x) ∧
        ((s.head h).state ≠ .held → (s.head h).state ≠ .fault → (record.heads.get h).cause = .none) ∧
        (record.heads.get h).furtherFaults = (s.head h).furtherFaults ∧
        (record.heads.get h).queueDepth = (s.head h).queue.length ∧
        (record.heads.get h).inFlight = (s.head h).inFlight.length ∧
        (record.heads.get h).derate = (s.head h).monitor.derate ∧
        (record.heads.get h).reported = (s.head h).reported ∧
        (record.heads.get h).chainEnd = (s.head h).chainEnd) ∧
      SameMap s t ∧ SameTables s t ∧ t.heads = s.heads ∧ SameAdmission s t ∧ SameEvents s t ∧ SameNotices s t ∧
      SameDrive s t ∧ t.pins.resetLow = s.pins.resetLow ∧ t.pins.machineStop = s.pins.machineStop ∧
      t.out.enables = s.out.enables ∧ t.pending = s.pending

/-- With the clear-counters flag the counters are read into the record and then set to 0; without it they keep their
values. The LINK_ERROR slot is not touched, and an error counted after the clearing stands alone in its counter
(R161). -/
def Obligations.ClearFlagReadsThenClears : Prop :=
  ∀ (hdr : Header) (clear : Bool) (s : State), s.Listens →
    ∃ t record, exec (.readStatus hdr (.given ⟨clear⟩)) s = .next t ∧
      t.out.replySlot = some ⟨hdr.seq, 0x30, .ok, .readStatus record⟩ ∧ record.counters = s.counters ∧
      t.counters = (if clear then ⟨0, 0, 0, 0⟩ else s.counters) ∧ SameEvents s t ∧
      (clear = true → ∀ link check, ∃ u, exec (.corruptFrame link check) t = .next u ∧
        u.counters = LinkCounters.bump link (errorOf check) ⟨0, 0, 0, 0⟩)

/-- SET_EVENTS writes the 24 enables and discards the slots of the classes it disables; SET_JOB_TAG writes the job
tag. Each answers with the value it replaced (R162, R172). -/
def Obligations.EnablesAndJobTagWritten : Prop :=
  (∀ (hdr : Header) (ops : SetEventsOps) (s : State), s.Listens →
    let c := Instr.setEvents hdr (.given ops)
    ∃ t, exec c s = .next t ∧ Answered c ⟨hdr.seq, 0x28, .ok, .setEvents s.out.enables⟩ s t ∧
      t.out.enables = ops.enables ∧
      t.eventContents = s.eventContents.filter (fun e => ops.enables.getLsbD e.1.bit) ∧
      SameMap s t ∧ SameTables s t ∧ t.heads = s.heads ∧ SameAdmission s t ∧ SameNotices s t ∧ SameDrive s t ∧
      t.pins.resetLow = s.pins.resetLow ∧ t.pins.machineStop = s.pins.machineStop ∧ t.counters = s.counters ∧
      t.pending = s.pending) ∧
  ∀ (hdr : Header) (ops : SetJobTagOps) (s : State), s.Listens →
    let c := Instr.setJobTag hdr (.given ops)
    ∃ t, exec c s = .next t ∧ t.mgmt = { s.mgmt with slot := some c, jobTag := ops.tag } ∧
      t.out.replySlot = some ⟨hdr.seq, 0x31, .ok, .setJobTag s.mgmt.jobTag⟩ ∧
      SameMap s t ∧ SameTables s t ∧ t.heads = s.heads ∧ SameAdmission s t ∧ SameEvents s t ∧ SameNotices s t ∧
      SameDrive s t ∧ SameRest s t

/-! ### Strokes and the queues -/

/-- A stroke joins the back of its head's queue below 32 strokes, marked notify by its flag or by an enabled window
that its line tag matches; into an empty queue it is an occasion for its head. At 32 strokes it is dropped with
QUEUE_OVERFLOW (R25, R26, R27). -/
def Obligations.StrokeJoinsQueueOrOverflows : Prop :=
  ∀ (st : Stroke) (s : State), s.Runs →
    ((s.head st.head).queue.length < 32 → ∃ t q, exec (.stroke st) s = .next t ∧ q.stroke = st ∧
      (q.notify = true ↔ st.notify = true ∨
        ∃ k : Fin 4, (s.windows.get k).enable = true ∧
          st.tag &&& (s.windows.get k).mask = (s.windows.get k).base &&& (s.windows.get k).mask) ∧
      t.head st.head = { s.head st.head with queue := (s.head st.head).queue ++ [q] } ∧
      SameOtherHeads st.head s t ∧ t.waitList = s.waitList ∧
      t.occasions = s.occasions ++ (if (s.head st.head).queue = [] then s.kept [.one st.head] else []) ∧
      SameMap s t ∧ SameTables s t ∧ SameEvents s t ∧ SameNotices s t ∧ SameManagement s t ∧ SameDrive s t ∧
      SameRest s t) ∧
    (32 ≤ (s.head st.head).queue.length → ∃ t, exec (.stroke st) s = .next t ∧
      t.eventContents = s.eventsWith (.ofHead .queueOverflow st.head) (.queueOverflow st.tag) ∧
      t.heads = s.heads ∧ SameAdmission s t ∧ SameMap s t ∧ SameTables s t ∧ SameNotices s t ∧ SameManagement s t ∧
      SameDrive s t ∧ SameRest s t)

/-- FLUSH_QUEUE removes every queued stroke of one head, counts them in its REPLY, and drops the head's wait entry
with a pass of the other heads (R33, R52). -/
def Obligations.FlushEmptiesOneQueue : Prop :=
  ∀ (hdr : Header) (ops : HeadOps) (s : State), s.Listens →
    let c := Instr.flushQueue hdr (.given ops)
    ∃ t, exec c s = .next t ∧ t.head ops.head = { s.head ops.head with queue := [] } ∧
      SameOtherHeads ops.head s t ∧
      Answered c ⟨hdr.seq, 0x09, .ok, .flushQueue (s.head ops.head).queue.length⟩ s t ∧
      t.waitList = s.waitsWithout ops.head ∧ t.occasions = s.occasions ++ s.passAfterWait ops.head ∧
      SameMap s t ∧ SameTables s t ∧ SameEvents s t ∧ SameNotices s t ∧ SameDrive s t ∧ SameRest s t

/-! ### The block and the grade table -/

/-- LOAD_BLOCK: refused BAD_OPERAND on its operands, then BUSY_CUTTING with a stroke in flight; else every queue is
flushed, every wait order dropped, the block record written and INITIALISING entered, with no REPLY yet (R14, R15). The
model's own: every cell of the new map reads at once as the visit is to leave it, where R15 gives it no defined
contents until the visit reaches it (log entry 11), and no occasion stays, its reading of R62 (log entry 12). -/
def Obligations.LoadBlockEntersInitialising : Prop :=
  ∀ (hdr : Header) (ops : LoadBlockOps) (s : State), s.Listens →
    let c := Instr.loadBlock hdr (.given ops)
    (¬ LoadOperandsPass ops → ∃ t, exec c s = .next t ∧ RefusedWith c hdr 0x01 .badOperand s t) ∧
    (LoadOperandsPass ops → (∃ h, (s.head h).inFlight ≠ []) → ∃ t, exec c s = .next t ∧
      RefusedWith c hdr 0x01 .busyCutting s t) ∧
    (LoadOperandsPass ops → (∀ h, (s.head h).inFlight = []) → ∃ t, exec c s = .next t ∧
      t.block =
        { state := .initialising, columns := ops.columns.toNat, rows := ops.rows.toNat, pitch := ops.pitch.toNat
          layers := ops.layers.map fun l => ⟨l.thickness.toNat, l.grade.toNat⟩
          top := (ops.layers.map fun l => l.thickness.toNat).sum, unloadVisit := false } ∧
      (∀ x, t.cell x = ⟨t.block.top, 0, 0, none, 0, false⟩) ∧
      (∀ h, t.head h = { s.head h with queue := [] }) ∧ t.waitList = [] ∧ t.occasions = [] ∧
      t.mgmt = { s.mgmt with
        slot := some c
        loadFlushed := (s.head 0).queue.length + (s.head 1).queue.length + (s.head 2).queue.length +
          (s.head 3).queue.length } ∧
      t.out.replySlot = s.out.replySlot ∧ SameTables s t ∧ SameEvents s t ∧ SameNotices s t ∧ SameDrive s t ∧
      SameRest s t)

/-- The initialisation visit's end enters LOADED with every cell at kerf floor T, floor limit 0, zone 0, without claim
and sure, brings a pass of every head and answers the LOAD_BLOCK with T and the flushed count (R16). That the end writes
no cell is the model's choice: the map lists nothing while the block is INITIALISING, and so reads as the visit leaves
it (log entry 11, the law VisitLaw of StepKeepsTheCutMap). The unload visit's end discards the map, enters NO_BLOCK and answers with the number of cut
and of unsure cells (R20). -/
def Obligations.VisitsEndWithTheirReply : Prop :=
  (∀ (hdr : Header) (ops : Operands LoadBlockOps) (s : State), s.Runs → s.block.state = .initialising →
    s.mgmt.slot = some (.loadBlock hdr ops) →
    ∃ t, exec .initialisationVisitEnd s = .next t ∧ t.block = { s.block with state := .loaded } ∧
      t.cells = s.cells ∧ (s.VisitLaw → ∀ x, t.cell x = ⟨s.block.top, 0, 0, none, 0, false⟩) ∧
      t.occasions = s.occasions ++ [.pass none] ∧
      t.out.replySlot = some ⟨hdr.seq, 0x01, .ok, .loadBlock s.block.top s.mgmt.loadFlushed⟩ ∧ t.mgmt = s.mgmt ∧
      t.heads = s.heads ∧ t.waitList = s.waitList ∧ SameTables s t ∧ SameEvents s t ∧ SameNotices s t ∧
      SameDrive s t ∧ SameRest s t) ∧
  ∀ (hdr : Header) (ops : Operands NoOps) (s : State), s.Runs → s.block.unloadVisit = true →
    s.mgmt.slot = some (.unloadBlock hdr ops) → s.BlockLaw → s.MapLaw → s.EntriesLaw →
    ∃ t, exec .unloadVisitEnd s = .next t ∧
      t.block =
        { state := .noBlock, columns := 0, rows := 0, pitch := 0, layers := [], top := 0, unloadVisit := false } ∧
      t.cells = [] ∧
      t.out.replySlot = some ⟨hdr.seq, 0x02, .ok, .unloadBlock
        (((List.range s.block.rows).map fun row => (List.range s.block.columns).countP fun column =>
          (s.cell ⟨column, row⟩).kerfFloor < s.block.top).sum)
        (((List.range s.block.rows).map fun row => (List.range s.block.columns).countP fun column =>
          (s.cell ⟨column, row⟩).unsure).sum)⟩ ∧
      t.mgmt = s.mgmt ∧ t.heads = s.heads ∧ SameAdmission s t ∧ SameTables s t ∧ SameEvents s t ∧ SameNotices s t ∧
      SameDrive s t ∧ SameRest s t

/-- UNLOAD_BLOCK: refused NO_BLOCK without a block and BUSY_CUTTING with a stroke in flight; else every queue is
flushed and the unload visit runs, the block still LOADED, with no REPLY yet (R19, R20). Each head with a wait entry
brings its pass of the other heads (R52), in head-number order, which is the model's reading (log entry 13). -/
def Obligations.UnloadBlockStartsVisit : Prop :=
  ∀ (hdr : Header) (s : State), s.Listens →
    let c := Instr.unloadBlock hdr (.given .mk)
    (s.block.state = .noBlock → ∃ t, exec c s = .next t ∧ RefusedWith c hdr 0x02 .noBlock s t) ∧
    (s.block.state = .loaded → (∃ h, (s.head h).inFlight ≠ []) → ∃ t, exec c s = .next t ∧
      RefusedWith c hdr 0x02 .busyCutting s t) ∧
    (s.block.state = .loaded → (∀ h, (s.head h).inFlight = []) → ∃ t, exec c s = .next t ∧
      t.block = { s.block with unloadVisit := true } ∧ t.cells = s.cells ∧
      (∀ h, t.head h = { s.head h with queue := [] }) ∧ t.waitList = [] ∧
      t.occasions = s.occasions ++ (([0, 1, 2, 3] : List Head).filter s.waits).map (fun h => .pass (some h)) ∧
      t.mgmt = { s.mgmt with slot := some c } ∧
      t.out.replySlot = s.out.replySlot ∧ SameTables s t ∧ SameEvents s t ∧ SameNotices s t ∧ SameDrive s t ∧
      SameRest s t)

/-- WRITE_GRADE writes or clears one entry, answers with the entry as it stood and brings a pass of every head, or is
refused on its operands (R12, R13). SET_NOTIFY_WINDOW writes one window and answers with the window as it stood, or is
refused above window 3 (R29). -/
def Obligations.GradesAndWindowsWritten : Prop :=
  (∀ (hdr : Header) (ops : WriteGradeOps) (s : State), s.Listens →
    let c := Instr.writeGrade hdr (.given ops)
    (¬ GradeOperandsPass ops → ∃ t, exec c s = .next t ∧ RefusedWith c hdr 0x03 .badOperand s t) ∧
    (GradeOperandsPass ops → ∀ g : Fin 16, g.val = ops.grade.toNat → ∃ t, exec c s = .next t ∧
      (∀ k : Fin 16, t.grades.get k =
        if k = g then (if ops.clear then ⟨false, 0, 0, 0⟩
          else ⟨true, ops.bite.toNat, ops.dragLow.toNat, ops.dragHigh.toNat⟩)
        else s.grades.get k) ∧
      Answered c ⟨hdr.seq, 0x03, .ok, .writeGrade (s.grades.get g)⟩ s t ∧ t.windows = s.windows ∧
      t.sources = s.sources ∧ t.waitList = s.waitList ∧ t.occasions = s.occasions ++ s.kept [.pass none] ∧
      SameMap s t ∧ t.heads = s.heads ∧ SameEvents s t ∧ SameNotices s t ∧ SameDrive s t ∧ SameRest s t)) ∧
  ∀ (hdr : Header) (ops : NotifyWindowOps) (s : State), s.Listens →
    let c := Instr.setNotifyWindow hdr (.given ops)
    (∀ w : Fin 4, w.val = ops.window.toNat → ∃ t, exec c s = .next t ∧
      (∀ k : Fin 4, t.windows.get k = if k = w then ⟨ops.enable, ops.mask, ops.base⟩ else s.windows.get k) ∧
      Answered c ⟨hdr.seq, 0x08, .ok, .setNotifyWindow (s.windows.get w)⟩ s t ∧ t.grades = s.grades ∧
      t.sources = s.sources ∧ SameMap s t ∧ t.heads = s.heads ∧ SameAdmission s t ∧ SameEvents s t ∧
      SameNotices s t ∧ SameDrive s t ∧ SameRest s t) ∧
    (3 < ops.window.toNat → ∃ t, exec c s = .next t ∧ RefusedWith c hdr 0x08 .badOperand s t)

/-! ### Heads -/

/-- SET_HEAD: refused on its ranges, then as the table of R122 gives; a taken one writes all six settings, moves the
state, answers with the settings before and brings a pass of every head, and one more evaluation of a head that
entered READY (R121, R122, R123). That the pass for a removed wait entry comes before the pass of every head is the
model's reading (log entry 13). -/
def Obligations.SetHeadWritesSettings : Prop :=
  ∀ (hdr : Header) (ops : SetHeadOps) (s : State), s.Listens →
    let c := Instr.setHead hdr (.given ops)
    let h := ops.head
    let hd := s.head h
    let entersOff := hd.state ≠ .off ∧ ops.enable = false
    (¬ HeadOperandsPass ops → ∃ t, exec c s = .next t ∧ RefusedWith c hdr 0x10 .badOperand s t) ∧
    (HeadOperandsPass ops → hd.state = .off → ops.enable = true → s.pins.machineStop = true →
      ∃ t, exec c s = .next t ∧ RefusedWith c hdr 0x10 .machineStop s t) ∧
    (HeadOperandsPass ops → hd.TakesFaults → ops.enable = false → hd.inFlight ≠ [] →
      ∃ t, exec c s = .next t ∧ RefusedWith c hdr 0x10 .busyCutting s t) ∧
    (HeadOperandsPass ops → hd.state = .fault → ops.enable = false →
      ∃ t, exec c s = .next t ∧ RefusedWith c hdr 0x10 .state s t) ∧
    (HeadOperandsPass ops → EnablePasses hd s.pins.machineStop ops.enable → ∃ t, exec c s = .next t ∧
      t.head h = { hd with
        settings := { zoneSet := ops.zoneSet, guard := ops.guard.toNat, rate := ops.rate.toNat
                      travelMax := ops.travelMax.toNat, clearance := ops.clearance.toNat
                      lowWater := ops.lowWater.toNat }
        state := stateEnabled hd.state ops.enable
        holdCause := if entersOff then none else hd.holdCause } ∧
      SameOtherHeads h s t ∧
      Answered c ⟨hdr.seq, 0x10, .ok, .setHead (stateEnabled hd.state ops.enable) hd.settings⟩ s t ∧
      t.waitList = (if entersOff then s.waitsWithout h else s.waitList) ∧
      t.occasions = s.occasions ++ (if entersOff then s.passAfterWait h else []) ++ s.kept [.pass none] ++
        (if hd.state = .off ∧ ops.enable = true then s.kept [.one h] else []) ∧
      SameMap s t ∧ SameTables s t ∧ SameEvents s t ∧ SameNotices s t ∧ SameDrive s t ∧ SameRest s t)

/-- SET_POSITION: refused STATE in FAULT and BUSY_CUTTING with a stroke in flight; else chain end and reported
position become the point given, valid (R124, R35, R36). -/
def Obligations.SetPositionMovesBothPoints : Prop :=
  ∀ (hdr : Header) (ops : HeadPointOps) (s : State), s.Listens →
    let c := Instr.setPosition hdr (.given ops)
    let hd := s.head ops.head
    (hd.state = .fault → ∃ t, exec c s = .next t ∧ RefusedWith c hdr 0x11 .state s t) ∧
    (hd.state ≠ .fault → hd.inFlight ≠ [] → ∃ t, exec c s = .next t ∧ RefusedWith c hdr 0x11 .busyCutting s t) ∧
    (hd.state ≠ .fault → hd.inFlight = [] → ∃ t, exec c s = .next t ∧
      t.head ops.head = { hd with chainEnd := ⟨ops.point, true⟩, reported := ⟨ops.point, true⟩ } ∧
      SameOtherHeads ops.head s t ∧ Answered c ⟨hdr.seq, 0x11, .ok, .setPosition hd.chainEnd⟩ s t ∧
      SameAdmission s t ∧ SameMap s t ∧ SameTables s t ∧ SameEvents s t ∧ SameNotices s t ∧ SameDrive s t ∧
      SameRest s t)

/-- HOLD_HEAD: refused STATE in OFF and FAULT; else the head is HELD with the cause of R125, a hard hold requests a
halt, and the REPLY goes at once with nothing in flight and is owed otherwise (R125, R126, R127, R89). That the halt
request sets the flag where a HALT already waits with the flag clear is the model's reading (log entry 14). -/
def Obligations.HoldHeadHoldsAndHalts : Prop :=
  ∀ (hdr : Header) (ops : HoldHeadOps) (s : State), s.Listens →
    let c := Instr.holdHead hdr (.given ops)
    let h := ops.head
    let hd := s.head h
    let cause := if ops.hard then some HoldCause.hard else if hd.state = .held then hd.holdCause else some .soft
    (hd.state = .off ∨ hd.state = .fault → ∃ t, exec c s = .next t ∧ RefusedWith c hdr 0x12 .state s t) ∧
    (hd.TakesFaults → ∃ t, exec c s = .next t ∧
      t.head h = { hd with
        state := .held
        holdCause := cause
        haltOutstanding := hd.haltOutstanding || (ops.hard && !hd.inFlight.isEmpty)
        holdReplyOwed := hd.holdReplyOwed || !hd.inFlight.isEmpty } ∧
      SameOtherHeads h s t ∧
      t.driveFrames = (if ops.hard then s.framesHalted h hd else s.driveFrames) ∧
      t.mgmt = { s.mgmt with slot := some c } ∧
      t.out.replySlot =
        (if hd.inFlight = [] then some ⟨hdr.seq, 0x12, .ok, .holdHead cause hd.reported⟩ else s.out.replySlot) ∧
      t.waitList = (if hd.state = .held then s.waitList else s.waitsWithout h) ∧
      t.occasions = s.occasions ++ (if hd.state = .held then [] else s.passAfterWait h) ∧
      SameMap s t ∧ SameTables s t ∧ SameEvents s t ∧ SameNotices s t ∧ SameRest s t)

/-- RELEASE_HEAD: refused STATE outside HELD; else the hold cause becomes none, the head enters CUTTING with a stroke
in flight and READY without, and is evaluated alone (R129, R60). -/
def Obligations.ReleaseHeadLeavesHeld : Prop :=
  ∀ (hdr : Header) (ops : HeadOps) (s : State), s.Listens →
    let c := Instr.releaseHead hdr (.given ops)
    let hd := s.head ops.head
    let entered := if hd.inFlight = [] then HeadState.ready else .cutting
    (hd.state ≠ .held → ∃ t, exec c s = .next t ∧ RefusedWith c hdr 0x13 .state s t) ∧
    (hd.state = .held → ∃ t, exec c s = .next t ∧
      t.head ops.head = { hd with state := entered, holdCause := none } ∧ SameOtherHeads ops.head s t ∧
      Answered c ⟨hdr.seq, 0x13, .ok, .releaseHead entered⟩ s t ∧ t.waitList = s.waitList ∧
      t.occasions = s.occasions ++ s.kept [.one ops.head] ∧ SameMap s t ∧ SameTables s t ∧ SameEvents s t ∧
      SameNotices s t ∧ SameDrive s t ∧ SameRest s t)

/-- CLEAR_HEAD: refused STATE outside FAULT, then MACHINE_STOP while the input is asserted; else every in-flight
record leaves with its UNRESOLVED notice, the head is restored at the point given in READY, and its occasions come
in the order they were raised (R136, R137, R138). -/
def Obligations.ClearHeadRestoresTheHead : Prop :=
  ∀ (hdr : Header) (ops : HeadPointOps) (s : State), s.Listens →
    let c := Instr.clearHead hdr (.given ops)
    let h := ops.head
    let hd := s.head h
    (hd.state ≠ .fault → ∃ t, exec c s = .next t ∧ RefusedWith c hdr 0x14 .state s t) ∧
    (hd.state = .fault → s.pins.machineStop = true → ∃ t, exec c s = .next t ∧
      RefusedWith c hdr 0x14 .machineStop s t) ∧
    (hd.state = .fault → s.pins.machineStop = false → ∃ t, exec c s = .next t ∧
      t.head h = { hd with
        state := .ready, latch := ⟨none, none, 0⟩, furtherFaults := 0, queue := [], inFlight := []
        chainEnd := ⟨ops.point, true⟩, reported := ⟨ops.point, true⟩, haltOutstanding := false
        monitor := ⟨0, 0, 0, 0, 0⟩, gapTimer := .stopped, overdueRunning := false } ∧
      SameOtherHeads h s t ∧
      Answered c ⟨hdr.seq, 0x14, .ok, .clearHead hd.inFlight.length hd.queue.length⟩ s t ∧
      t.noticeContents = s.noticeContents ++ (hd.inFlight.filter InFlight.reserved).map (fun r =>
        ⟨r.stroke.head, r.issue, r.stroke.tag, .unresolved,
          some (if r.stroke.kind = .cut then r.pathLength + 1 else 0), r.ratedFeed⟩) ∧
      t.driveFrames = s.drive.tx.toList ++
        s.drive.queue.filter (fun f => hd.inFlight.all fun r => !f.isIssueOf h r.issue) ∧
      t.occasions = s.occasions ++ s.kept (hd.inFlight.map (fun _ => .pass none) ++ [.one h]) ∧
      t.waitList = s.waitList ∧ t.block = s.block ∧ SameTables s t ∧ SameEvents s t ∧ SameRest s t)

/-! ### Fault entry -/

/-- DRIVE_FAULT: with code 0 a malformed frame; stale in OFF; the fault entry of a head in READY, CUTTING or HELD,
with the issue number and code as carried; a further fault in FAULT (R84, R97, R99, R131, R132). The model's own: the
halt flag where a HALT already waits (log entry 14), and a code of 0 as a command (log entry 15). -/
def Obligations.DriveFaultFaultsTheHead : Prop :=
  ∀ (h : Head) (issue code : Byte) (s : State), s.Runs →
    let c := Instr.driveFault h issue code
    (code ≠ 0 → (s.head h).TakesFaults →
      ∃ t, exec c s = .next t ∧ FaultEntered h .driveFault (some issue) code (s.head h) s t) ∧
    (code ≠ 0 → (s.head h).state = .fault → ∃ t, exec c s = .next t ∧
      t.head h = { s.head h with furtherFaults := min 15 ((s.head h).furtherFaults + 1) } ∧
      SameOtherHeads h s t ∧ SameAdmission s t ∧ SameMap s t ∧ SameTables s t ∧ SameEvents s t ∧ SameNotices s t ∧
      SameManagement s t ∧ SameDrive s t ∧ SameRest s t) ∧
    (code ≠ 0 → (s.head h).state = .off → ∃ t, exec c s = .next t ∧
      t.eventContents = s.eventsWith (.ofPart .staleReport) (.staleReport h issue .driveFault) ∧
      t.heads = s.heads ∧ SameAdmission s t ∧ SameMap s t ∧ SameTables s t ∧ SameNotices s t ∧
      SameManagement s t ∧ SameDrive s t ∧ SameRest s t) ∧
    (code = 0 → exec c s = exec (.corruptFrame .drive .field) s)

/-- An expiry of a running timer is the fault entry of its head with the oldest record's issue number: DRIVE_SILENT
for the status-gap timer, OVERDUE for the overdue timer (R112, R114, R131). The halt flag where a HALT already waits is
the model's reading (log entry 14). -/
def Obligations.TimerExpiryFaultsTheHead : Prop :=
  ∀ (h : Head) (r : InFlight) (s : State), s.Runs → (s.head h).TakesFaults →
    (s.head h).inFlight.head? = some r →
    ((s.head h).gapTimer ≠ .stopped → ∃ t, exec (.statusGapExpiry h) s = .next t ∧
      FaultEntered h .driveSilent (some r.issue) 0 (s.head h) s t) ∧
    ((s.head h).overdueRunning = true → ∃ t, exec (.overdueExpiry h) s = .next t ∧
      FaultEntered h .overdue (some r.issue) 0 (s.head h) s t)

/-- MACHINE STOP asserted faults every head in READY, CUTTING and HELD with its oldest issue number or none, raises
the further-faults count of a head in FAULT and leaves a head in OFF. Each faulted head queues its HALT, leaves the wait
list with a pass of the other heads, pays an owed hold REPLY as FAULTED and records HEAD_FAULT, in head-number order;
the edge is recorded. Deasserted, it changes no head and records its edge. LINE HOLD follows (R134, R135, R120, R131,
R89, R52, R127). The model's own: the edge is recorded after the HEAD_FAULTs (log entry 18), and the halt flag where a
HALT already waits (log entry 14). -/
def Obligations.MachineStopFaultsEveryHead : Prop :=
  (∀ s : State, s.Runs → s.pins.machineStop = false → ∃ t, exec .machineStopAsserted s = .next t ∧
    (∀ h, ((s.head h).state = .off → t.head h = s.head h) ∧
      ((s.head h).state = .fault →
        t.head h = { s.head h with furtherFaults := min 15 ((s.head h).furtherFaults + 1) }) ∧
      ((s.head h).TakesFaults →
        t.head h = (s.head h).faulted .machineStop ((s.head h).inFlight.head?.map InFlight.issue) 0)) ∧
    t.pins.machineStop = true ∧ t.pins.lineHold = true ∧ t.pins.resetLow = false ∧
    t.driveFrames = s.driveFrames ++ (s.faultTakers.filter fun h =>
      !(s.head h).haltOutstanding && !s.drive.queue.contains (.halt h)).map .halt ∧
    t.waitList = (s.waitList.filter fun e => !s.faultTakers.contains e.head) ∧
    t.occasions = s.occasions ++ s.kept ((s.faultTakers.filter s.waits).map fun h => .pass (some h)) ∧
    t.out.replySlot = (if s.faultTakers.any fun h => (s.head h).holdReplyOwed
      then s.replyWith .faulted (.holdFaulted .machineStop) else s.out.replySlot) ∧
    t.eventContents = ((s.faultTakers.foldl
        (fun o h => o.raise (.ofHead .headFault h)
          (.headFault .machineStop ((s.head h).inFlight.head?.map InFlight.issue) 0)) s.out).raise
        (.ofPart .machineStop) (.machineStop true)).events.map EventSlot.content ∧
    SameMap s t ∧ SameTables s t ∧ SameNotices s t ∧ t.mgmt = s.mgmt ∧ t.out.enables = s.out.enables ∧
    t.counters = s.counters ∧ t.pending = s.pending) ∧
  ∀ s : State, s.Runs → s.pins.machineStop = true → ∃ t, exec .machineStopDeasserted s = .next t ∧
    t.heads = s.heads ∧ t.pins.machineStop = false ∧ t.pins.resetLow = false ∧
    (t.pins.lineHold = true ↔ ∃ h, (s.head h).state = .fault) ∧
    t.eventContents = s.eventsWith (.ofPart .machineStop) (.machineStop false) ∧ SameAdmission s t ∧ SameMap s t ∧
    SameTables s t ∧ SameNotices s t ∧ SameManagement s t ∧ SameDrive s t ∧ t.out.enables = s.out.enables ∧
    t.counters = s.counters ∧ t.pending = s.pending

/-! ### The blade monitor -/

/-- SET_MONITOR and SET_TIMERS write the settings of one head and answer with those before, or are refused on their
operands; no run, count, level or timer changes (R115, R116). -/
def Obligations.MonitorAndTimerSettingsWritten : Prop :=
  (∀ (hdr : Header) (ops : SetMonitorOps) (s : State), s.Listens →
    let c := Instr.setMonitor hdr (.given ops)
    (¬ MonitorOperandsPass ops → ∃ t, exec c s = .next t ∧ RefusedWith c hdr 0x18 .badOperand s t) ∧
    (MonitorOperandsPass ops → ∃ t, exec c s = .next t ∧
      t.head ops.head = { s.head ops.head with
        monitorSettings := ⟨ops.highDebounce.toNat, ops.lowDebounce.toNat, ops.stallDebounce.toNat,
          ops.stepDownCount.toNat, ops.tolerance.toNat⟩ } ∧
      SameOtherHeads ops.head s t ∧
      Answered c ⟨hdr.seq, 0x18, .ok, .setMonitor (s.head ops.head).monitorSettings⟩ s t ∧ SameAdmission s t ∧
      SameMap s t ∧ SameTables s t ∧ SameEvents s t ∧ SameNotices s t ∧ SameDrive s t ∧ SameRest s t)) ∧
  ∀ (hdr : Header) (ops : SetTimersOps) (s : State), s.Listens →
    let c := Instr.setTimers hdr (.given ops)
    (¬ TimersOperandsPass ops → ∃ t, exec c s = .next t ∧ RefusedWith c hdr 0x19 .badOperand s t) ∧
    (TimersOperandsPass ops → ∃ t, exec c s = .next t ∧
      t.head ops.head = { s.head ops.head with
        timerSettings := ⟨ops.gapLimit.toNat, ops.factor.toNat, ops.allowance.toNat⟩ } ∧
      SameOtherHeads ops.head s t ∧
      Answered c ⟨hdr.seq, 0x19, .ok, .setTimers (s.head ops.head).timerSettings⟩ s t ∧ SameAdmission s t ∧
      SameMap s t ∧ SameTables s t ∧ SameEvents s t ∧ SameNotices s t ∧ SameDrive s t ∧ SameRest s t)

/-- A STATUS frame that is no checked sample restarts a running status-gap timer and changes nothing else; for a
head in OFF it changes nothing at all (R98, R103, R112). -/
def Obligations.UncheckedStatusRestartsTimer : Prop :=
  ∀ (h : Head) (executing : Option Byte) (drag : BitVec 10) (cycles ms : Word) (s : State), s.Runs →
    (∀ r, ¬ s.Checked h executing r) → ∃ t, exec (.status h executing drag cycles ms) s = .next t ∧
      t.head h =
        { s.head h with gapTimer := if (s.head h).state = .off then (s.head h).gapTimer else (s.head h).gapRestarted } ∧
      SameOtherHeads h s t ∧ SameAdmission s t ∧ SameMap s t ∧ SameTables s t ∧ SameEvents s t ∧ SameNotices s t ∧
      SameManagement s t ∧ SameDrive s t ∧ SameRest s t

/-- The drag check of a checked sample that is not short of cycles (R104, R105, R106): a high sample raises the high
run, sets saw-high and at the debounce climbs the derate ladder or faults DRAG_HIGH; a low sample of a foam grade
raises the low run and at the debounce faults BLADE_LOSS; any other sets both runs to 0. In a fault entry, the halt flag
where a HALT already waits is the model's reading (log entry 14). -/
def Obligations.DragCheckMovesRunsAndLadder : Prop :=
  ∀ (h : Head) (r : InFlight) (w : DragWindow) (g : Nat) (drag : BitVec 10) (cycles ms : Word) (s : State),
    s.Runs → s.Checked h (some r.issue) r → r.window = some w → r.dominant = some g →
    ¬ s.ShortOf h r cycles.toNat ms.toNat → 1 ≤ (s.head h).monitorSettings.stallDebounce →
    let hd := s.head h
    let m := hd.monitor
    let alive := { hd with gapTimer := hd.gapRestarted }
    let seen := { alive with inFlight := { r with sawHigh := true } :: hd.inFlight.tail }
    let quiet := fun (u t : State) => SameOtherHeads h u t ∧ SameAdmission u t ∧ SameMap u t ∧ SameTables u t ∧
      SameNotices u t ∧ SameManagement u t ∧ SameDrive u t ∧ SameRest u t
    ∃ t, exec (.status h (some r.issue) drag cycles ms) s = .next t ∧
      (w.high < drag.toNat → m.highRun + 1 < hd.monitorSettings.highDebounce →
        t.head h = { seen with monitor := { m with highRun := m.highRun + 1, lowRun := 0, stallRun := 0 } } ∧
        SameEvents s t ∧ quiet s t) ∧
      (w.high < drag.toNat → hd.monitorSettings.highDebounce ≤ m.highRun + 1 → m.derate < 3 →
        t.head h = { seen with monitor := ⟨0, 0, 0, 0, m.derate + 1⟩ } ∧
        t.eventContents = s.eventsWith (.ofHead .derateChange h) (.derateChange (m.derate + 1) r.issue) ∧
        quiet s t) ∧
      (w.high < drag.toNat → hd.monitorSettings.highDebounce ≤ m.highRun + 1 → m.derate = 3 →
        FaultEntered h .dragHigh (some r.issue) 0
          { seen with monitor := { m with highRun := m.highRun + 1, lowRun := 0 } } s t) ∧
      (drag.toNat ≤ w.high → drag.toNat < w.low → g ≠ 0 → m.lowRun + 1 < hd.monitorSettings.lowDebounce →
        t.head h = { alive with monitor := { m with highRun := 0, lowRun := m.lowRun + 1, stallRun := 0 } } ∧
        SameEvents s t ∧ quiet s t) ∧
      (drag.toNat ≤ w.high → drag.toNat < w.low → g ≠ 0 → hd.monitorSettings.lowDebounce ≤ m.lowRun + 1 →
        FaultEntered h .bladeLoss (some r.issue) 0
          { alive with monitor := { m with highRun := 0, lowRun := m.lowRun + 1 } } s t) ∧
      (drag.toNat ≤ w.high → (w.low ≤ drag.toNat ∨ g = 0) →
        t.head h = { alive with monitor := { m with highRun := 0, lowRun := 0, stallRun := 0 } } ∧
        SameEvents s t ∧ quiet s t)

/-- A stall run left at or above the stall debounce by the cycle check is the fault entry of the head with cause
BLADE_STALL and the oldest record's issue number; the run keeps its value and the derate level is not changed. The
runs are the head's: no report that removes a record and no issue of one changes them (R110). A checked sample comes to
the cycle check unless the drag check has faulted the head (R111). The model's own: the halt flag where a HALT already
waits (log entry 14), and that the outputs follow at the end of the whole sample (log entry 6). -/
def Obligations.StallRunFaultsBladeStall : Prop :=
  (∀ (h : Head) (r : InFlight) (cycles ms : Nat) (s : State), (s.head h).TakesFaults →
    (s.head h).inFlight.head? = some r →
    let run := if s.ShortOf h r cycles ms then (s.head h).monitor.stallRun + 1 else 0
    let hd := { s.head h with monitor := { (s.head h).monitor with stallRun := run } }
    ((s.head h).monitorSettings.stallDebounce ≤ run →
      FaultEntered h .bladeStall (some r.issue) 0 hd s (settle (s.cycleCheck h r cycles ms))) ∧
    (run < (s.head h).monitorSettings.stallDebounce → s.cycleCheck h r cycles ms = s.setHead h hd)) ∧
  (∀ (h : Head) (r : InFlight) (drag : BitVec 10) (cycles ms : Word) (s : State), s.Runs →
    s.Checked h (some r.issue) r →
    let dragged := (s.modHead h HeadRecord.signOfLife).dragCheck h r drag.toNat
    (dragged.head h).state ≠ .fault →
    exec (.status h (some r.issue) drag cycles ms) s =
      .next (settle (dragged.cycleCheck h r cycles.toNat ms.toNat))) ∧
  ∀ (c : Instr) (h g : Head) (issue : Byte) (k : Word) (p : Point) (s t : State),
    (c = .complete h issue p ∨ c = .halted h issue k p ∨ c = .evaluation h ∨ c = .pass) → exec c s = .next t →
    (t.head g).monitor.stallRun = (s.head g).monitor.stallRun ∧
      (t.head g).monitor.highRun = (s.head g).monitor.highRun ∧ (t.head g).monitor.lowRun = (s.head g).monitor.lowRun

/-- The step-down on a COMPLETE that matches: a clean CUT stroke raises the clean count, and at the step-down count the
derate level falls by 1 with DERATE_CHANGE; a CUT stroke that dragged high sets the count to 0; at level 0 and for a
TRAVEL stroke nothing changes (R107, R108). That this holds of a head in FAULT too is the model's reading (log
entry 19). -/
def Obligations.CleanCompletionsStepDown : Prop :=
  ∀ (h : Head) (r : InFlight) (p : Point) (s : State), s.Runs → (s.head h).inFlight.head? = some r →
    let m := (s.head h).monitor
    ∃ t, exec (.complete h r.issue p) s = .next t ∧
      (r.stroke.kind = .travel → (t.head h).monitor = m ∧ SameEvents s t) ∧
      (r.stroke.kind = .cut → r.sawHigh = true → (t.head h).monitor = { m with cleanCount := 0 } ∧ SameEvents s t) ∧
      (r.stroke.kind = .cut → r.sawHigh = false → m.derate = 0 → (t.head h).monitor = m ∧ SameEvents s t) ∧
      (r.stroke.kind = .cut → r.sawHigh = false → 0 < m.derate →
        m.cleanCount + 1 < (s.head h).monitorSettings.stepDownCount →
        (t.head h).monitor = { m with cleanCount := m.cleanCount + 1 } ∧ SameEvents s t) ∧
      (r.stroke.kind = .cut → r.sawHigh = false → 0 < m.derate →
        (s.head h).monitorSettings.stepDownCount ≤ m.cleanCount + 1 →
        (t.head h).monitor = { m with cleanCount := 0, derate := m.derate - 1 } ∧
        t.eventContents = s.eventsWith (.ofHead .derateChange h) (.derateChange (m.derate - 1) r.issue))

/-- The overdue limit of a record: D is 1000 × (|dx| + |dy|) / v rounded up, and the limit is D × f / 4 rounded up,
plus A (R113). -/
def Obligations.OverdueLimitRoundsUp : Prop :=
  ∀ (ts : TimerSettings) (r : InFlight), 1 ≤ r.ratedFeed →
    ∃ dx dy d q : Nat,
      (dx = r.stroke.finish.x.toNat - r.stroke.start.x.toNat ∨ dx = r.stroke.start.x.toNat - r.stroke.finish.x.toNat) ∧
      r.stroke.finish.x.toNat ≤ r.stroke.start.x.toNat + dx ∧ r.stroke.start.x.toNat ≤ r.stroke.finish.x.toNat + dx ∧
      (dy = r.stroke.finish.y.toNat - r.stroke.start.y.toNat ∨ dy = r.stroke.start.y.toNat - r.stroke.finish.y.toNat) ∧
      r.stroke.finish.y.toNat ≤ r.stroke.start.y.toNat + dy ∧ r.stroke.start.y.toNat ≤ r.stroke.finish.y.toNat + dy ∧
      1000 * (dx + dy) ≤ d * r.ratedFeed ∧ d * r.ratedFeed < 1000 * (dx + dy) + r.ratedFeed ∧
      d * ts.factor ≤ 4 * q ∧ 4 * q < d * ts.factor + 4 ∧ overdueLimit ts r = q + ts.allowance

/-! ### Map programming -/

/-- SET_PRESET writes both presets of the sending source and answers with those before, or is refused above zone 15
(R143). -/
def Obligations.PresetsWrittenForTheSender : Prop :=
  ∀ (hdr : Header) (ops : SetPresetOps) (s : State), s.Listens →
    let c := Instr.setPreset hdr (.given ops)
    let r := s.sources.get hdr.source
    (15 < ops.zone.toNat → ∃ t, exec c s = .next t ∧ RefusedWith c hdr 0x20 .badOperand s t) ∧
    (ops.zone.toNat ≤ 15 → ∃ t, exec c s = .next t ∧
      (∀ k, t.sources.get k = if k = hdr.source
        then { r with zonePreset := ops.zone.toNat, floorPreset := ops.floor.toNat } else s.sources.get k) ∧
      Answered c ⟨hdr.seq, 0x20, .ok, .setPreset r.zonePreset r.floorPreset⟩ s t ∧ t.grades = s.grades ∧
      t.windows = s.windows ∧ t.heads = s.heads ∧ SameAdmission s t ∧ SameMap s t ∧ SameEvents s t ∧
      SameNotices s t ∧ SameDrive s t ∧ SameRest s t)

/-- SET_SOURCE: refused BAD_SOURCE from a source other than 0, then BAD_OPERAND for a target above 3; else the target's
protected set is replaced whole and the REPLY carries the set before; no cell, no preset, no occasion and no event
changes (R144). -/
def Obligations.ProtectedSetReplaced : Prop :=
  ∀ (hdr : Header) (ops : SetSourceOps) (s : State), s.Listens →
    let c := Instr.setSource hdr (.given ops)
    (hdr.source ≠ 0 → ∃ t, exec c s = .next t ∧ RefusedWith c hdr 0x21 .badSource s t) ∧
    (hdr.source = 0 → 3 < ops.target.toNat → ∃ t, exec c s = .next t ∧ RefusedWith c hdr 0x21 .badOperand s t) ∧
    (hdr.source = 0 → ∀ target : Source, target.val = ops.target.toNat → ∃ t, exec c s = .next t ∧
      (∀ k, t.sources.get k =
        if k = target then { s.sources.get k with protectedSet := ops.protectedSet } else s.sources.get k) ∧
      Answered c ⟨hdr.seq, 0x21, .ok, .setSource (s.sources.get target).protectedSet⟩ s t ∧ t.grades = s.grades ∧
      t.windows = s.windows ∧ t.heads = s.heads ∧ SameAdmission s t ∧ SameMap s t ∧ SameEvents s t ∧
      SameNotices s t ∧ SameDrive s t ∧ SameRest s t)

/-- SPAN_WRITE: its tests in the order of R146; then each entry below the count is outside, kept, protected or written,
the written cells take the sender's preset in the field named and keep every other field, every other cell is as it
was, the REPLY carries the three counts, and a pass follows when a cell was written (R146, R147, R148). -/
def Obligations.SpanWriteProgramsCells : Prop :=
  ∀ (hdr : Header) (ops : SpanWriteOps) (s : State), s.Listens →
    let c := Instr.spanWrite hdr (.given ops)
    let src := s.sources.get hdr.source
    let countOk := 1 ≤ ops.count.toNat ∧ ops.count.toNat ≤ 32
    let rowOk := ops.row.toNat < s.block.rows
    let fieldOk := ops.field = 0 ∨ ops.field = 1
    let cellAt := fun k : Nat => s.cell ⟨ops.firstColumn.toNat + k, ops.row.toNat⟩
    let inside := fun k : Nat => decide (ops.firstColumn.toNat + k < s.block.columns)
    let kept := fun k : Nat => inside k && ops.pattern.getLsbD k
    let shielded := fun k : Nat => inside k && !ops.pattern.getLsbD k && src.protectedSet.getLsbD (cellAt k).zone
    let written := fun k : Nat => inside k && !ops.pattern.getLsbD k && !src.protectedSet.getLsbD (cellAt k).zone
    let counted := fun p : Nat → Bool => (List.range ops.count.toNat).countP p
    (s.block.state ≠ .loaded → ∃ t, exec c s = .next t ∧ RefusedWith c hdr 0x22 .noBlock s t) ∧
    (s.block.state = .loaded → ¬ (countOk ∧ rowOk ∧ fieldOk) → ∃ t, exec c s = .next t ∧
      RefusedWith c hdr 0x22 .badOperand s t) ∧
    (s.block.state = .loaded → countOk → rowOk → fieldOk → s.BlockLaw → s.MapLaw → ∃ t, exec c s = .next t ∧
      (∀ x : CellRef, x.column < 256 → t.cell x =
        if x.row = ops.row.toNat ∧ ∃ k < ops.count.toNat, x.column = ops.firstColumn.toNat + k ∧ written k = true
        then (if ops.field = 0 then { s.cell x with zone := src.zonePreset }
          else { s.cell x with floorLimit := src.floorPreset })
        else s.cell x) ∧
      Answered c ⟨hdr.seq, 0x22, .ok, .spanWrite (counted written) (counted shielded)
        (counted fun k => !inside k)⟩ s t ∧
      counted written + counted shielded + counted (fun k => !inside k) + counted kept = ops.count.toNat ∧
      t.occasions = s.occasions ++ (if counted written = 0 then [] else [.pass none]) ∧ t.waitList = s.waitList ∧
      t.block = s.block ∧ SameTables s t ∧ t.heads = s.heads ∧ SameEvents s t ∧ SameNotices s t ∧ SameDrive s t ∧
      SameRest s t)

/-- SPAN_QUERY answers, entry by entry, whether a cell is cut to the level and whether it is unsure; READ_CELL answers
with the whole cell record; each is refused without a loaded block and on its operands, and changes nothing (R150,
R151). -/
def Obligations.MapQueriesAnswerTheCells : Prop :=
  (∀ (hdr : Header) (ops : SpanQueryOps) (s : State), s.Listens →
    let c := Instr.spanQuery hdr (.given ops)
    let operandsOk := 1 ≤ ops.count.toNat ∧ ops.count.toNat ≤ 32 ∧ ops.row.toNat < s.block.rows
    (s.block.state ≠ .loaded → ∃ t, exec c s = .next t ∧ RefusedWith c hdr 0x23 .noBlock s t) ∧
    (s.block.state = .loaded → ¬ operandsOk → ∃ t, exec c s = .next t ∧ RefusedWith c hdr 0x23 .badOperand s t) ∧
    (s.block.state = .loaded → operandsOk → ∃ t cut unsure, exec c s = .next t ∧
      Answered c ⟨hdr.seq, 0x23, .ok, .spanQuery cut unsure⟩ s t ∧
      (∀ k, (cut.getLsbD k = true ↔ k < ops.count.toNat ∧ ops.firstColumn.toNat + k < s.block.columns ∧
        (s.cell ⟨ops.firstColumn.toNat + k, ops.row.toNat⟩).kerfFloor ≤ ops.level.toNat)) ∧
      (∀ k, (unsure.getLsbD k = true ↔ k < ops.count.toNat ∧ ops.firstColumn.toNat + k < s.block.columns ∧
        (s.cell ⟨ops.firstColumn.toNat + k, ops.row.toNat⟩).unsure = true)) ∧
      SameMap s t ∧ SameTables s t ∧ t.heads = s.heads ∧ SameAdmission s t ∧ SameEvents s t ∧ SameNotices s t ∧
      SameDrive s t ∧ SameRest s t)) ∧
  ∀ (hdr : Header) (ops : ReadCellOps) (s : State), s.Listens →
    let c := Instr.readCell hdr (.given ops)
    let operandsOk := ops.column.toNat < s.block.columns ∧ ops.row.toNat < s.block.rows
    (s.block.state ≠ .loaded → ∃ t, exec c s = .next t ∧ RefusedWith c hdr 0x24 .noBlock s t) ∧
    (s.block.state = .loaded → ¬ operandsOk → ∃ t, exec c s = .next t ∧ RefusedWith c hdr 0x24 .badOperand s t) ∧
    (s.block.state = .loaded → operandsOk → ∃ t, exec c s = .next t ∧
      Answered c ⟨hdr.seq, 0x24, .ok, .readCell (s.cell ⟨ops.column.toNat, ops.row.toNat⟩)⟩ s t ∧
      SameMap s t ∧ SameTables s t ∧ t.heads = s.heads ∧ SameAdmission s t ∧ SameEvents s t ∧ SameNotices s t ∧
      SameDrive s t ∧ SameRest s t)

/-! ### Admission -/

/-- An evaluation that stops at checks 1 to 3, at the notice check, or on an empty queue leaves everything but the
occasion it takes as it was (R59, R63, R64, R65, R78). -/
def Obligations.EvaluationWaits : Prop :=
  ∀ (h : Head) (rest : List Occasion) (s : State), s.Runs → s.occasions = .one h :: rest →
    ((s.head h).queue = [] ∨ ¬ s.HeadAdmits h ∨
      ∃ q rating, (s.head h).queue.head? = some q ∧ s.PassesRating h q.stroke rating ∧ q.notify = true ∧
        16 ≤ s.slotsInUse) →
    ∃ t, exec (.evaluation h) s = .next t ∧ t.occasions = rest ∧ t.waitList = s.waitList ∧ t.heads = s.heads ∧
      SameMap s t ∧ SameTables s t ∧ SameEvents s t ∧ SameNotices s t ∧ SameManagement s t ∧ SameDrive s t ∧
      SameRest s t

/-- An evaluation that passes checks 1 to 13 and finds a footprint cell claimed by another head, or else a shared cell
with an older waiter, records the wait: a new entry at the back, or the old entry in its place with the footprint
just formed; nothing else changes (R51, R53, R63, R79). -/
def Obligations.ClaimAndYieldWaitsRecorded : Prop :=
  ∀ (h : Head) (q : QueuedStroke) (rating : Rating) (rest : List Occasion) (s : State), s.Runs →
    s.occasions = .one h :: rest → (s.head h).queue.head? = some q → s.PassesRating h q.stroke rating →
    (q.notify = true → s.slotsInUse < 16) → ¬ (s.Unclaimed h q.stroke ∧ s.Unyielding h q.stroke) →
    ∃ t, exec (.evaluation h) s = .next t ∧ t.occasions = rest ∧
      t.waitList = (if s.waits h = true
        then s.waitList.map fun e => if e.head = h then ⟨h, s.footprintNow h q.stroke⟩ else e
        else s.waitList ++ [⟨h, s.footprintNow h q.stroke⟩]) ∧
      t.heads = s.heads ∧ SameMap s t ∧ SameTables s t ∧ SameEvents s t ∧ SameNotices s t ∧ SameManagement s t ∧
      SameDrive s t ∧ SameRest s t

/-- An evaluation refuses the front stroke at the first of checks 4 to 12 that fails, those of the position, the block
and a TRAVEL stroke first, then those of a CUT stroke on the map and its rating (R63, R66 to R72, R75 to R77). -/
def Obligations.EvaluationRefusesTheStroke : Prop :=
  (∀ (h : Head) (q : QueuedStroke) (rest : List Occasion) (s : State), s.Runs → s.occasions = .one h :: rest →
    (s.head h).queue.head? = some q → s.HeadAdmits h →
    let st := q.stroke
    let refusedFor := fun reason => ∃ t, exec (.evaluation h) s = .next t ∧ StrokeRefused h q reason rest s t
    let inside := inBlock s.block st.start = true ∧ inBlock s.block st.finish = true
    ((s.head h).chainEnd.valid = false → refusedFor .noPosition) ∧
    ((s.head h).chainEnd.valid = true → st.start ≠ (s.head h).chainEnd.point → refusedFor .discontinuous) ∧
    (s.StartsInPlace h st → ¬ inside → refusedFor .outOfBlock) ∧
    (s.StartsInPlace h st → inside → 255 < pathLength s.block st → refusedFor .tooLong) ∧
    (s.StartsInPlace h st → s.LiesInBlock st → st.kind = .travel → ¬ s.ClearsBlock h st → refusedFor .badTravel) ∧
    (s.StartsInPlace h st → s.LiesInBlock st → st.kind = .travel → s.ClearsBlock h st →
      min st.feed.toNat (s.head h).settings.travelMax = 0 → refusedFor .feedZero)) ∧
  ∀ (h : Head) (q : QueuedStroke) (rest : List Occasion) (s : State), s.Runs → s.occasions = .one h :: rest →
    (s.head h).queue.head? = some q → s.HeadAdmits h → s.StartsInPlace h q.stroke → s.LiesInBlock q.stroke →
    q.stroke.kind = .cut →
    let st := q.stroke
    let refusedFor := fun reason => ∃ t, exec (.evaluation h) s = .next t ∧ StrokeRefused h q reason rest s t
    (¬ s.ZonesAllowed h st → refusedFor .zoneDenied) ∧
    (s.ZonesAllowed h st → ¬ s.FloorsKept st → refusedFor .belowFloor) ∧
    (s.ZonesAllowed h st → s.FloorsKept st → ¬ s.GradesSet st → refusedFor .gradeUnset) ∧
    (s.ZonesAllowed h st → s.FloorsKept st → s.GradesSet st → ∀ rating, s.CutRating h st rating → rating.feed = 0 →
      refusedFor .feedZero)

/-- A front stroke that passes every check is issued: claims, reservation, issue number, record, queue and QUEUE_LOW,
chain end, wait entry, in-flight list with its timers, ISSUE frame, and CUTTING (R32, R46, R80, R81, R85, R88, R112,
R113). -/
def Obligations.EvaluationIssuesTheStroke : Prop :=
  ∀ (h : Head) (q : QueuedStroke) (rating : Rating) (rest : List Occasion) (s : State), s.Runs →
    s.occasions = .one h :: rest → (s.head h).queue.head? = some q → s.PassesRating h q.stroke rating →
    (q.notify = true → s.slotsInUse < 16) → s.Unclaimed h q.stroke → s.Unyielding h q.stroke →
    let hd := s.head h
    let st := q.stroke
    let built : InFlight :=
      { issue := hd.issueCounter, stroke := st, notify := q.notify, pathLength := pathLength s.block st
        guard := hd.settings.guard, dominant := rating.dominant, window := rating.window
        ratedFeed := rating.feed, rate := hd.settings.rate, reserved := q.notify, sawHigh := false
        overdueLimit := none }
    let r := if hd.inFlight = [] then { built with overdueLimit := some (overdueLimit hd.timerSettings built) }
      else built
    ∃ t, exec (.evaluation h) s = .next t ∧
      t.head h = { hd with
        state := .cutting
        queue := hd.queue.tail
        chainEnd := ⟨st.finish, true⟩
        issueCounter := hd.issueCounter + 1
        inFlight := hd.inFlight ++ [r]
        gapTimer := if hd.inFlight = [] then .running hd.timerSettings.gapLimit else hd.gapTimer
        overdueRunning := if hd.inFlight = [] then true else hd.overdueRunning } ∧
      SameOtherHeads h s t ∧
      (s.BlockLaw → s.MapLaw → ∀ x : CellRef, x.column < 256 → t.cell x =
        if x ∈ s.footprintNow h st then { s.cell x with owner := some h, count := (s.cell x).count + 1 }
        else s.cell x) ∧
      t.block = s.block ∧ t.waitList = s.waitsWithout h ∧
      t.occasions = rest ++ (if hd.state = .ready then [.one h] else []) ∧
      t.driveFrames = s.driveFrames ++
        [.issue h hd.issueCounter st.kind st.start st.finish rating.feed hd.settings.rate (pathLength s.block st)] ∧
      t.eventContents = (if hd.settings.lowWater = hd.queue.length
        then s.eventsWith (.ofHead .queueLow h) (.queueLow st.tag hd.issueCounter) else s.eventContents) ∧
      t.slotsInUse = s.slotsInUse + (if q.notify then 1 else 0) ∧ SameTables s t ∧ SameNotices s t ∧
      SameManagement s t ∧ SameRest s t

/-- A pass takes the occasion and evaluates each head once: first the heads of the wait list, oldest first, then the
others in head-number order, without the head that the occasion leaves out (R55, R56, R61). An evaluation of one head
does the same for that head. The model's own: the queue of occasions (log entry 1), and that the outputs follow at the
end of the whole pass (log entry 6). -/
def Obligations.PassEvaluatesInOrder : Prop :=
  (∀ (except : Option Head) (rest : List Occasion) (s : State), s.Runs → s.occasions = .pass except :: rest →
    let waiting := s.waitList.map WaitEntry.head
    let order := (waiting ++ ([0, 1, 2, 3] : List Head).filter (fun h => h ∉ waiting)).filter (fun h => some h ≠ except)
    exec .pass s = .next (settle (order.foldl (fun u h => u.evaluate h) { s with occasions := rest }))) ∧
  ∀ (h : Head) (rest : List Occasion) (s : State), s.Runs → s.occasions = .one h :: rest →
    exec (.evaluation h) s = .next (settle (State.evaluate h { s with occasions := rest }))

/-- The path of a stroke: n is the larger of the column and row distances, and the path has n + 1 cells from the start
cell to the end cell, no cell twice, each one column or row from the one before and between the two end cells; columns,
rows and path heights are those of i of n steps, rounded half away from zero; the path heights run from z0 to z1 and lie
between them (R39, R40, R41). The footprint holds exactly the cells of the map within the guard of a path cell, each once (R43). -/
def Obligations.PathAndFootprintOfAStroke : Prop :=
  (∀ (b : BlockRecord) (st : Stroke),
    let n := pathLength b st
    let c0 := cellOf b st.start
    let c1 := cellOf b st.finish
    let z0 := st.start.z.toNat
    let z1 := st.finish.z.toNat
    let at' := pathCell b st
    n = max (max (c1.column - c0.column) (c0.column - c1.column)) (max (c1.row - c0.row) (c0.row - c1.row)) ∧
      (∀ i ≤ n, 0 < n → RoundedStep c0.column c1.column i n (at' i).cell.column ∧
        RoundedStep c0.row c1.row i n (at' i).cell.row ∧ RoundedStep z0 z1 i n (at' i).height) ∧
      (path b st).length = n + 1 ∧ (∀ i ≤ n, (path b st)[i]? = some (at' i)) ∧ at' 0 = ⟨c0, z0⟩ ∧ (at' n).cell = c1 ∧
      (0 < n → (at' n).height = z1) ∧ ((path b st).map PathCell.cell).Nodup ∧
      (∀ i < n, (at' (i + 1)).cell.column ≤ (at' i).cell.column + 1 ∧
        (at' i).cell.column ≤ (at' (i + 1)).cell.column + 1 ∧ (at' (i + 1)).cell.row ≤ (at' i).cell.row + 1 ∧
        (at' i).cell.row ≤ (at' (i + 1)).cell.row + 1) ∧
      ∀ p ∈ path b st, min c0.column c1.column ≤ p.cell.column ∧ p.cell.column ≤ max c0.column c1.column ∧
        min c0.row c1.row ≤ p.cell.row ∧ p.cell.row ≤ max c0.row c1.row ∧ min z0 z1 ≤ p.height ∧
        p.height ≤ max z0 z1) ∧
  ∀ (b : BlockRecord) (st : Stroke) (g : Nat),
    (footprint b st g).Nodup ∧
    ∀ c : CellRef, c ∈ footprint b st g ↔ c.column < b.columns ∧ c.row < b.rows ∧
      ∃ p ∈ path b st, (c.column ≤ p.cell.column + g ∧ p.cell.column ≤ c.column + g) ∧
        (c.row ≤ p.cell.row + g ∧ p.cell.row ≤ c.row + g)

/-- The grades of an interval are the grades of its crossed layers, each once; an empty interval has none. A path cell
at or below the deepest height, or any cell for a deepest height at or above T, has grade 0 alone; any other has the
grades from the deepest height up to its kerf floor (R4, R73). -/
def Obligations.GradesOfCrossedLayers : Prop :=
  (∀ (layers : List Layer) (a b g : Nat),
    (crossedGrades layers a b).Nodup ∧
    (g ∈ crossedGrades layers a b ↔ a < b ∧ ∃ k l, layers[k]? = some l ∧ l.grade = g ∧
      a < stackTop (layers.take k) + l.thickness ∧ stackTop (layers.take k) < b)) ∧
  ∀ (b : BlockRecord) (kerf zd : Nat),
    (kerf ≤ zd ∨ b.top ≤ zd → cellGrades b kerf zd = [0]) ∧
    (zd < kerf → zd < b.top → cellGrades b kerf zd = crossedGrades b.layers zd kerf)

/-! ### Reports of the drive units -/

/-- A COMPLETE or HALTED that matches the oldest record moves its head: the record leaves, the reported position is the
recorded end or the stop position, the next record becomes oldest with its limit and timer, and an emptied list ends
CUTTING, the halt and an owed hold; a HALTED that empties the list moves the chain end too. The record's notice, its
waiting ISSUE frame and the pass of every head follow (R88, R92, R94, R95, R96, R127). -/
def Obligations.MatchingReportMovesTheHead : Prop :=
  ∀ (h : Head) (r : InFlight) (s : State), s.Runs → (s.head h).ListLaw → (s.head h).inFlight.head? = some r →
    let hd := s.head h
    let emptied := hd.inFlight.tail = []
    let reply := fun (reported : Point) =>
      if emptied ∧ hd.state = .held ∧ hd.holdReplyOwed = true
      then s.replyWith .ok (.holdHead hd.holdCause ⟨reported, true⟩) else s.out.replySlot
    let follows := fun (t : State) => SameOtherHeads h s t ∧ t.block = s.block ∧ SameTables s t ∧
      t.driveFrames = s.framesWithdrawn h r.issue ∧ t.occasions = s.occasions ++ s.kept [.pass none] ∧
      t.waitList = s.waitList ∧ t.mgmt = s.mgmt ∧ SameRest s t
    (∀ p, ∃ t, exec (.complete h r.issue p) s = .next t ∧
      t.head h = { hd.afterReport r.stroke.finish with monitor := (t.head h).monitor } ∧
      t.noticeContents = s.noticesWith r .complete none ∧ t.out.replySlot = reply r.stroke.finish ∧ follows t) ∧
    ∀ (k : Word) (stop : Point), k.toNat ≤ r.pathLength + 1 → ∃ t, exec (.halted h r.issue k stop) s = .next t ∧
      t.head h = { hd.afterReport stop with
        chainEnd := if hd.inFlight.tail = [] then ⟨stop, true⟩ else hd.chainEnd } ∧
      t.noticeContents = s.noticesWith r .halted (some k.toNat) ∧ t.out.replySlot = reply stop ∧ SameEvents s t ∧
      follows t

/-- A matching report commits the path cells it counts, all of them on a COMPLETE, of a CUT stroke: the kerf floor
becomes the smaller of itself and the path height, and nothing else of the cell; and it releases the claims of the
whole footprint. No other cell changes (R47, R91, R92, R94). CLEAR_HEAD takes each stroke in flight as cut to its
end: a kerf floor above a path height becomes it and the cell is unsure; the claims of each record's footprint are
released; no other cell changes (R137, R47). -/
def Obligations.CellsAfterReportsAndClears : Prop :=
  (∀ (h : Head) (r : InFlight) (s : State), s.Runs → (s.head h).inFlight.head? = some r → s.BlockLaw → s.FlightLaw →
    s.FlightInBlock → s.MapLaw →
    (∀ p, ∃ t, exec (.complete h r.issue p) s = .next t ∧
      ∀ c : CellRef, c.column < 256 → t.cell c = s.cellAfterReport r (r.pathLength + 1) c) ∧
    ∀ (k : Word) (stop : Point), k.toNat ≤ r.pathLength + 1 → ∃ t, exec (.halted h r.issue k stop) s = .next t ∧
      ∀ c : CellRef, c.column < 256 → t.cell c = s.cellAfterReport r k.toNat c) ∧
  ∀ (hdr : Header) (ops : HeadPointOps) (s : State), s.Listens → (s.head ops.head).state = .fault →
    s.pins.machineStop = false → s.BlockLaw → s.FlightLaw → s.FlightInBlock → s.MapLaw →
    ∃ t, exec (.clearHead hdr (.given ops)) s = .next t ∧
      ∀ c : CellRef, c.column < 256 →
        t.cell c = (s.head ops.head).inFlight.foldl (fun x r => s.cellResolved c x r) (s.cell c)

/-- A COMPLETE or HALTED that does not match is stale: STALE_REPORT records it, a running status-gap timer of a head
that is not OFF restarts, and nothing else changes (R90, R97, R98). -/
def Obligations.StaleReportChangesNothing : Prop :=
  ∀ (h : Head) (issue : Byte) (s : State), s.Runs →
    let hd := s.head h
    let stale := fun (kind : ReportKind) (t : State) =>
      t.head h = { hd with gapTimer := if hd.state = .off then hd.gapTimer else hd.gapRestarted } ∧
      SameOtherHeads h s t ∧ t.eventContents = s.eventsWith (.ofPart .staleReport) (.staleReport h issue kind) ∧
      SameAdmission s t ∧ SameMap s t ∧ SameTables s t ∧ SameNotices s t ∧ SameManagement s t ∧ SameDrive s t ∧
      SameRest s t
    ((∀ r, hd.inFlight.head? = some r → r.issue ≠ issue) →
      ∀ p, ∃ t, exec (.complete h issue p) s = .next t ∧ stale .complete t) ∧
    ∀ (k : Word), (∀ r, hd.inFlight.head? = some r → r.issue = issue → r.pathLength + 1 < k.toNat) →
      ∀ stop, ∃ t, exec (.halted h issue k stop) s = .next t ∧ stale .halted t

/-! ### The links -/

/-- A receiver that hunts ignores every byte but the start delimiter; the bytes of a frame from its delimiter to its
second CRC byte spell the one command of its checks; a length above 48 and a receive gap abandon the frame; the receiver
hunts after each (R165). The command waits in the queue, which is the model's choice (log entry 5). A dropped frame of
either link raises its one counter by 1, to 65535 at most, and is an occurrence of LINK_ERROR; nothing else changes but
its receiver, which hunts (R165, R166, R167). -/
def Obligations.DroppedFramesAreCounted : Prop :=
  ((∀ (link : Link) (b : Byte), b ≠ 0xC3 → Receiver.take link .hunting b = (.hunting, none)) ∧
    (∀ (link : Link) (kind : Byte) (payload more : List Byte) (crcReceived : Word), payload.length ≤ 48 →
      Receiver.commands link .hunting
          ([0xC3, BitVec.ofNat 8 payload.length, kind] ++ payload ++ word2 crcReceived ++ more) =
        decodeFrame link kind payload crcReceived :: Receiver.commands link .hunting more) ∧
    (∀ (link : Link) (b : Byte), 48 < b.toNat →
      Receiver.take link .delimited b = (.hunting, some (.lengthAbove48 link b))) ∧
    (∀ (link : Link) (r : Receiver), r.gap link = (.hunting, if r = .hunting then none else some (.receiveGap link))) ∧
    ∀ (x : Signal) (s : State), s.Runs →
      let heard := (s.receivers.of x.link).hear x
      s.hear x =
        { s with receivers := s.receivers.put heard.1 x.link, pending := s.pending ++ heard.2.toList }) ∧
  ∀ (link : Link) (s : State), s.Runs →
    let n := s.counters
    let up := fun k : Nat => if k < 65535 then k + 1 else 65535
    let dropped := fun (c : Instr) (error : LinkError) => n.lineCrc ≤ 65535 → n.lineMalformed ≤ 65535 →
      n.driveCrc ≤ 65535 → n.driveMalformed ≤ 65535 → ∃ t, exec c s = .next t ∧
      t.counters = (match link, error with
        | .line, .crc => { n with lineCrc := up n.lineCrc }
        | .line, .malformed => { n with lineMalformed := up n.lineMalformed }
        | .drive, .crc => { n with driveCrc := up n.driveCrc }
        | .drive, .malformed => { n with driveMalformed := up n.driveMalformed }) ∧
      t.eventContents = s.eventsWith (.ofPart .linkError) (.linkError link error) ∧ SameMap s t ∧ SameTables s t ∧
      t.heads = s.heads ∧ SameAdmission s t ∧ SameNotices s t ∧ SameManagement s t ∧ SameDrive s t ∧
      t.pins.resetLow = s.pins.resetLow ∧ t.pins.machineStop = s.pins.machineStop ∧ t.out.enables = s.out.enables ∧
      t.pending = s.pending
    dropped (.corruptFrame link .crc) .crc ∧ dropped (.corruptFrame link .kind) .malformed ∧
      dropped (.corruptFrame link .length) .malformed ∧ dropped (.corruptFrame link .field) .malformed ∧
      (∀ length, dropped (.lengthAbove48 link length) .malformed) ∧ dropped (.receiveGap link) .malformed

/-- The end of a REPLY empties the reply slot and the command slot; after the first of a status record's two frames the
second is on the transmitter at once and both slots stay occupied (R154, R173, R181). The end of a DONE frame removes
its notice, frees its slot and brings a pass of every head (R169). The end of an EVENT frame makes its slot not
pending, or with a late record the newest pending slot (R171). Where the notice or the slot of the frame has been
discarded since, its end frees nothing and brings nothing (R172, R174). -/
def Obligations.SentFramesFreeTheirSlots : Prop :=
  (∀ (r : Reply) (fresh : Nat) (s : State), s.Runs →
    let rest := fun (t : State) => SameMap s t ∧ SameTables s t ∧ t.heads = s.heads ∧ SameAdmission s t ∧
      SameEvents s t ∧ SameNotices s t ∧ SameDrive s t ∧ SameRest s t
    let gone := ∃ t, exec .replySent s = .next t ∧ t.mgmt = { s.mgmt with slot := none } ∧
      t.out.replySlot = none ∧ rest t
    ((∀ record, r.results ≠ .readStatus record) → s.out.tx = some ⟨.reply r, fresh⟩ → gone) ∧
    (s.out.tx = some ⟨.statusSecond r, fresh⟩ → gone) ∧
    (∀ record, r.results = .readStatus record → s.out.tx = some ⟨.reply r, fresh⟩ → ∃ t, exec .replySent s = .next t ∧
      t.out.tx.map PlacedFrame.frame = some (.statusSecond r) ∧ t.mgmt = s.mgmt ∧
      t.out.replySlot = s.out.replySlot ∧ rest t)) ∧
  (∀ (n : Notice) (jobTag : Word) (fresh : Nat) (x : QueuedNotice) (rest : List QueuedNotice) (s : State), s.Runs →
    s.out.tx = some ⟨.done n jobTag, fresh⟩ → s.out.notices = x :: rest → x.sending = true →
    ∃ t, exec .doneSent s = .next t ∧ t.noticeContents = rest.map QueuedNotice.notice ∧
      t.slotsInUse + 1 = s.slotsInUse ∧ t.occasions = s.occasions ++ s.kept [.pass none] ∧ t.waitList = s.waitList ∧
      SameMap s t ∧ SameTables s t ∧ t.heads = s.heads ∧ SameEvents s t ∧ SameManagement s t ∧ SameDrive s t ∧
      SameRest s t) ∧
  (∀ (n : Notice) (jobTag : Word) (fresh : Nat) (s : State), s.Runs → s.out.tx = some ⟨.done n jobTag, fresh⟩ →
    (∀ x ∈ s.out.notices.head?, x.sending = false) →
    ∃ t, exec .doneSent s = .next t ∧ SameNotices s t ∧ t.slotsInUse = s.slotsInUse ∧ SameAdmission s t ∧
      SameMap s t ∧ SameTables s t ∧ t.heads = s.heads ∧ SameEvents s t ∧ SameManagement s t ∧ SameDrive s t ∧
      SameRest s t) ∧
  (∀ (cls : EventClass) (o : Occurrence) (jobTag : Word) (fresh : Nat) (s : State), s.Runs →
    s.out.tx = some ⟨.event cls o jobTag, fresh⟩ → (∀ e ∈ s.out.events, e.cls = cls → e.sending = false) →
    ∃ t, exec .eventSent s = .next t ∧ SameEvents s t ∧ SameMap s t ∧ SameTables s t ∧ t.heads = s.heads ∧
      SameAdmission s t ∧ SameNotices s t ∧ SameManagement s t ∧ SameDrive s t ∧ SameRest s t) ∧
  ∀ (e : EventSlot) (jobTag : Word) (fresh : Nat) (s : State), s.Runs → s.EventsLaw → e ∈ s.out.events →
    e.sending = true → s.out.tx = some ⟨.event e.cls e.first jobTag, fresh⟩ →
    ∃ t, exec .eventSent s = .next t ∧
      t.eventContents = s.eventContents.filter (fun x => x.1 ≠ e.cls) ++
        (match e.late with
          | none => []
          | some o => [(e.cls, o, none)]) ∧
      SameMap s t ∧ SameTables s t ∧ t.heads = s.heads ∧ SameAdmission s t ∧ SameNotices s t ∧ SameManagement s t ∧
      SameDrive s t ∧ SameRest s t

/-- An occurrence of a class: not recorded when the class is disabled; else the newest pending slot with a count of 1,
or one more in the slot's count, to 255 at most, or in its late record while its frame is being sent (R170, R171,
R172). -/
def Obligations.OccurrenceReachesItsSlot : Prop :=
  ∀ (cls : EventClass) (d : Details) (o : Outbound),
    (o.enables.getLsbD cls.bit = false → o.raise cls d = o) ∧
    (o.enables.getLsbD cls.bit = true → (∀ e ∈ o.events, e.cls ≠ cls) →
      o.raise cls d = { o with events := o.events ++ [⟨cls, ⟨d, 1⟩, false, none⟩] }) ∧
    (o.enables.getLsbD cls.bit = true → (∃ e ∈ o.events, e.cls = cls) →
      (o.raise cls d).events.length = o.events.length ∧
      ∀ (i : Nat) (e : EventSlot), o.events[i]? = some e →
        (e.cls ≠ cls → (o.raise cls d).events[i]? = some e) ∧
        (e.cls = cls → e.sending = false → (o.raise cls d).events[i]? =
          some { e with first := ⟨e.first.details, min 255 (e.first.count + 1)⟩ }) ∧
        (e.cls = cls → e.sending = true → e.late = none → (o.raise cls d).events[i]? =
          some { e with late := some ⟨d, 1⟩ }) ∧
        (∀ x, e.cls = cls → e.sending = true → e.late = some x → (o.raise cls d).events[i]? =
          some { e with late := some ⟨x.details, min 255 (x.count + 1)⟩ }))

/-- When the line transmitter is free it takes the oldest HEAD_FAULT slot, else the REPLY, else the oldest notice, else
the oldest other slot: so after the end of each frame, and after every command that finds it free, the frame on it is
the first in that order among all that the command has left (R173). That the choice is made at the command's end is the
model's reading (log entry 6). When the drive transmitter has sent its frame it takes the front frame of its queue. A
frame on a transmitter stays there until its end or a reset (R88, R169, R171, R173). -/
def Obligations.TransmittersTakeTheNextFrame : Prop :=
  (∀ s : State, s.out.tx = none →
    let sent := (settle s).out.tx.map PlacedFrame.frame
    let faults := s.out.events.filter fun e => e.isHeadFault && !e.sending
    let others := s.out.events.filter fun e => !e.sending
    (∀ e more, faults = e :: more → sent = some (.event e.cls e.first s.mgmt.jobTag)) ∧
    (∀ r, faults = [] → s.out.replySlot = some r → sent = some (.reply r)) ∧
    (∀ n more, faults = [] → s.out.replySlot = none → s.out.notices = n :: more →
      sent = some (.done n.notice s.mgmt.jobTag)) ∧
    (∀ e more, faults = [] → s.out.replySlot = none → s.out.notices = [] → others = e :: more →
      sent = some (.event e.cls e.first s.mgmt.jobTag)) ∧
    (others = [] → s.out.replySlot = none → s.out.notices = [] → sent = none)) ∧
  (∀ (c : Instr) (s t : State), s.Runs → s.SendingLaw → s.FreesLine c → c ≠ .resetPinLow → c ≠ .powerOnReset →
    exec c s = .next t → t.SendsFirst) ∧
  (∀ s : State, s.Runs → ∃ t, exec .driveFrameSent s = .next t ∧ t.drive.tx = s.drive.queue.head? ∧
    t.drive.queue = s.drive.queue.tail ∧ SameMap s t ∧ SameTables s t ∧ t.heads = s.heads ∧ SameAdmission s t ∧
    SameEvents s t ∧ SameNotices s t ∧ SameManagement s t ∧ SameRest s t) ∧
  ∀ (c : Instr) (s t : State), exec c s = .next t → c ≠ .resetPinLow → c ≠ .powerOnReset →
    (∀ p, s.out.tx = some p → c ≠ .replySent → c ≠ .doneSent → c ≠ .eventSent → t.out.tx = some p) ∧
    ∀ f, s.drive.tx = some f → c ≠ .driveFrameSent → t.drive.tx = some f

/-- The payloads of the frames that the part sends, every OK REPLY among them, have the lengths of their tables, and a
frame is its payload with five bytes around it (R175, R180 to R184). -/
def Obligations.OutboundFramesHaveTheirLengths : Prop :=
  (∀ body : Byte × List Byte, (envelope body).length = body.2.length + 5) ∧
  (∀ (n : Notice) (jobTag : Word) (fresh : Nat),
    (PlacedFrame.body ⟨.done n jobTag, fresh⟩).2.length = if n.cells.isSome then 11 else 9) ∧
  (∀ (cls : EventClass) (o : Occurrence) (jobTag : Word) (fresh : Nat),
    (PlacedFrame.body ⟨.event cls o jobTag, fresh⟩).2.length = 9) ∧
  (∀ (seq code : Byte) (status : Status) (fresh : Nat),
    (PlacedFrame.body ⟨.reply ⟨seq, code, status, .none⟩, fresh⟩).2.length = 3) ∧
  (∀ (seq code : Byte) (fresh : Nat),
    let payload := fun results => (PlacedFrame.body ⟨.reply ⟨seq, code, .ok, results⟩, fresh⟩).2.length
    (∀ top flushed, payload (.loadBlock top flushed) = 6) ∧ (∀ cut unsure, payload (.unloadBlock cut unsure) = 7) ∧
    (∀ e, payload (.writeGrade e) = 10) ∧ (∀ w, payload (.setNotifyWindow w) = 8) ∧
    (∀ n, payload (.flushQueue n) = 4) ∧ (∀ after p, payload (.setHead after p) = 12) ∧
    (∀ p, payload (.setPosition p) = 9) ∧ (∀ cause p, payload (.holdHead cause p) = 10) ∧
    (∀ entered, payload (.releaseHead entered) = 4) ∧ (∀ n k, payload (.clearHead n k) = 5) ∧
    (∀ p, payload (.setMonitor p) = 8) ∧ (∀ p, payload (.setTimers p) = 8) ∧
    (∀ zone floor, payload (.setPreset zone floor) = 6) ∧ (∀ p, payload (.setSource p) = 5) ∧
    (∀ i j k, payload (.spanWrite i j k) = 6) ∧ (∀ cut unsure, payload (.spanQuery cut unsure) = 11) ∧
    (∀ x, payload (.readCell x) = 11) ∧ (∀ p, payload (.setEvents p) = 6) ∧ (∀ p, payload (.setJobTag p) = 5)) ∧
  (∀ (seq code : Byte) (cause : FaultCause) (fresh : Nat),
    (PlacedFrame.body ⟨.reply ⟨seq, code, .faulted, .holdFaulted cause⟩, fresh⟩).2.length = 4) ∧
  (∀ (seq code : Byte) (record : StatusRecord) (fresh : Nat),
    (PlacedFrame.body ⟨.reply ⟨seq, code, .ok, .readStatus record⟩, fresh⟩).2.length = 48 ∧
    (PlacedFrame.body ⟨.statusSecond ⟨seq, code, .ok, .readStatus record⟩, fresh⟩).2.length = 36) ∧
  (∀ (h : Head) (num : Byte) (kind : StrokeKind) (a b : Point) (feed rate n : Nat),
    (DriveFrame.body (.issue h num kind a b feed rate n)).2.length = 19) ∧
  ∀ h : Head, (DriveFrame.body (.halt h)).2.length = 1

/-! ### Laws that every step keeps -/

/-- What ties a head's state to its in-flight list, its causes, its timers, its two points, its issue numbers and its
halt flag is kept by every step (R35, R37, R85, R86, R89, R112, R114, R119, R130). -/
def Obligations.StepKeepsHeadsLawful : Prop :=
  ∀ s t : State, s.HeadsLawful → step s = .next t → t.HeadsLawful

/-- The claim law of R45 is kept by every step: each cell of the map is owned by at most the one head whose in-flight
footprints hold it, with their number as its count. -/
def Obligations.StepKeepsClaimsLaw : Prop :=
  ∀ s t : State, s.BlockLaw → s.MapLaw → s.FlightLaw → s.ClaimsLaw → step s = .next t → t.ClaimsLaw

/-- The command slot, the reply slot, the line transmitter and the long commands stay matched, the block record stays
one that R1 allows, and strokes are in flight only while the block is LOADED without an unload visit (R1, R2, R153,
R154, R158). -/
def Obligations.StepKeepsSlotAndBlock : Prop :=
  ∀ s t : State, s.SlotLaw → s.BlockLaw → s.FlightLaw → step s = .next t → t.SlotLaw ∧ t.BlockLaw ∧ t.FlightLaw

/-- The cut map keeps its canonical form, no kerf floor lies above T, every unsure cell is cut, and while the block
stays LOADED no step raises a kerf floor or clears an unsure mark (R5, R6, R7, R137). No step writes a cell outside the
map, and every stroke in flight keeps both ends in the block (R40, R43, R63). While the block is INITIALISING no step
lists a cell or leaves an occasion (R16, R62). The canonical form and the empty list are the model's own (log entries 11
and 12). -/
def Obligations.StepKeepsTheCutMap : Prop :=
  ((∀ s t : State, s.MapLaw → step s = .next t → t.MapLaw) ∧
  ∀ s t : State, s.KerfLaw → step s = .next t → t.KerfLaw) ∧
  (∀ s t : State, s.MapLaw → s.block.state = .loaded → step s = .next t → t.block.state = .loaded →
    ∀ c : CellRef, (t.cell c).kerfFloor ≤ (s.cell c).kerfFloor ∧ ((s.cell c).unsure = true → (t.cell c).unsure = true)) ∧
  (∀ s t : State, s.BlockLaw → s.FlightLaw → s.MapLaw → s.FlightInBlock → s.EntriesLaw → step s = .next t →
    t.FlightInBlock ∧ t.EntriesLaw) ∧
  ∀ s t : State, s.FlightLaw → s.VisitLaw → step s = .next t → t.VisitLaw

/-- The settings, runs, counts and levels stay in their ranges, the queues within 32 strokes of their own head, and the
in-flight records as issue builds them (R25, R76, R81, R102, R115, R116, R121). -/
def Obligations.StepKeepsRangesAndRecords : Prop :=
  (∀ s t : State, s.RangesLaw → step s = .next t → t.RangesLaw) ∧
  (∀ s t : State, s.QueuesLaw → step s = .next t → t.QueuesLaw) ∧
  ∀ s t : State, s.RangesLaw → s.QueuesLaw → s.RecordsLaw → step s = .next t → t.RecordsLaw

/-- The wait list, the done slots, the event pending set, the counters and the receivers keep their bounds (R50, R52,
R165, R167, R168, R170). -/
def Obligations.StepKeepsListsAndCounters : Prop :=
  (∀ s t : State, s.WaitLaw → step s = .next t → t.WaitLaw) ∧
  (∀ s t : State, s.SlotsLaw → step s = .next t → t.SlotsLaw) ∧
  (∀ s t : State, s.EventsLaw → step s = .next t → t.EventsLaw) ∧
  (∀ s t : State, s.CountersLaw → step s = .next t → t.CountersLaw) ∧
  ∀ s t : State, s.ReceiversLaw → step s = .next t → t.ReceiversLaw

/-- The drive transmit queue cannot fill: the waiting ISSUE frames of a head are those of its newest records, at most
one HALT of it waits, and so at most 12 frames wait in all (R88, R89). -/
def Obligations.DriveQueueNeverFills : Prop :=
  (∀ s t : State, s.HeadsLawful → s.DriveQueueLaw → step s = .next t → t.DriveQueueLaw) ∧
  ∀ s : State, s.HeadsLawful → s.DriveQueueLaw → s.drive.queue.length ≤ 12

/-- LINE HOLD is asserted exactly while MACHINE STOP is asserted, a head is in FAULT or RESET is low; and outside reset
no transmitter idles while a frame is ready for it (R88, R120, R171, R173, R186). -/
def Obligations.StepKeepsOutputsUpToDate : Prop :=
  (∀ s t : State, s.LineHoldLaw → step s = .next t → t.LineHoldLaw) ∧
  ∀ s t : State, s.EventsLaw → s.NoIdleLaw → step s = .next t → t.NoIdleLaw

/-! ### The frame of a stroke -/

/-- A STROKE frame whose CRC is right: a payload of 19 bytes gives the stroke record byte by byte, any other length and a
kind byte other than 0 or 1 make the frame malformed (R177). -/
def Obligations.StrokeFrameLayout : Prop :=
  ∀ (payload : List Byte) (crcReceived : Word), payload.length ≤ 48 →
    crc (BitVec.ofNat 8 payload.length :: 0x10 :: payload) = crcReceived →
    let read := decodeFrame .line 0x10 payload crcReceived
    let at' := fun i => payload.getD i 0
    let twoBytes := fun i => 256 * (at' i).toNat + (at' (i + 1)).toNat
    let pointIs := fun (p : Point) i => p.x.toNat = twoBytes i ∧ p.y.toNat = twoBytes (i + 2) ∧
      p.z.toNat = twoBytes (i + 4) % 4096
    (payload.length ≠ 19 → ∃ check, read = .corruptFrame .line check ∧ errorOf check = .malformed) ∧
    (payload.length = 19 → (at' 3).toNat ≠ 0 → (at' 3).toNat ≠ 1 →
      ∃ check, read = .corruptFrame .line check ∧ errorOf check = .malformed) ∧
    (payload.length = 19 → (at' 3).toNat = 0 ∨ (at' 3).toNat = 1 → (at' 0).toNat ≤ 3 → ∃ st, read = .stroke st ∧
      st.head.val = (at' 0).toNat ∧ st.tag.toNat = twoBytes 1 ∧ (st.kind = .cut ↔ (at' 3).toNat = 0) ∧
      (st.kind = .travel ↔ (at' 3).toNat = 1) ∧ (st.notify = true ↔ (at' 4).toNat % 2 = 1) ∧
      pointIs st.start 5 ∧ pointIs st.finish 11 ∧ st.feed.toNat = twoBytes 17 % 4096)
end

