-- ==== Sys2Proof/Laws/CutMap.lean ====
section
/-! SUPPORT. The cut map as data: reading after writing, and the canonical form that every operation keeps. -/

namespace Sys2Proof.Laws.CutMap
open Sys2Proof.Machine

variable {top : Nat} {m : CutMap} {k j : Nat} {c : Cell}

/-- The empty map has the canonical form. -/
theorem wf_nil : CutMap.wf top [] := by simp [CutMap.wf]

/-- The rest of a canonical map is canonical, and its addresses lie above the first. -/
theorem wf_cons {a : Nat} {c0 : Cell} :
    CutMap.wf top ((a, c0) :: m) ↔ (∀ e ∈ m, a < e.1) ∧ c0 ≠ Cell.fresh top ∧ CutMap.wf top m := by
  simp [CutMap.wf, List.pairwise_cons]
  grind

/-- An address below every listed one reads as an unlisted cell. -/
theorem read_below (h : ∀ e ∈ m, k < e.1) : CutMap.read top m k = Cell.fresh top := by
  induction m with
  | nil => rfl
  | cons e m ih =>
    obtain ⟨a, c0⟩ := e
    have h1 : k < a := h (a, c0) (by simp)
    have h2 : ∀ e ∈ m, k < e.1 := fun e he => h e (by simp [he])
    simp only [CutMap.read]
    rw [if_neg (by omega), ih h2]

/-- A cell reads back as it was written. -/
theorem read_write_same (hm : CutMap.wf top m) : CutMap.read top (CutMap.write top k c m) k = c := by
  induction m with
  | nil =>
    simp only [CutMap.write]
    split
    · simp_all [CutMap.read]
    · simp [CutMap.read]
  | cons e m ih =>
    obtain ⟨a, c0⟩ := e
    obtain ⟨ha, _, hm⟩ := wf_cons.mp hm
    simp only [CutMap.write]
    split
    · rename_i hk
      split
      · rename_i hc
        rw [hc]
        refine read_below ?_
        intro e he
        rcases List.mem_cons.mp he with rfl | he
        · exact hk
        · exact Nat.lt_trans hk (ha e he)
      · simp [CutMap.read]
    · split
      · rename_i hk
        split
        · rename_i hc
          rw [hc]
          exact read_below fun e he => hk ▸ ha e he
        · simp [CutMap.read]
      · rename_i h1 h2
        simp only [CutMap.read]
        rw [if_neg (by omega)]
        exact ih hm

/-- A write at one address leaves every other address as it was. -/
theorem read_write_other (hj : j ≠ k) (hm : CutMap.wf top m) :
    CutMap.read top (CutMap.write top k c m) j = CutMap.read top m j := by
  induction m with
  | nil =>
    simp only [CutMap.write]
    split
    · rfl
    · simp [CutMap.read, Ne.symm hj]
  | cons e m ih =>
    obtain ⟨a, c0⟩ := e
    obtain ⟨ha, _, hm⟩ := wf_cons.mp hm
    simp only [CutMap.write]
    split
    · split
      · rfl
      · rw [CutMap.read, if_neg (Ne.symm hj)]
    · split
      · rename_i hk
        subst hk
        split
        · rw [CutMap.read, if_neg (Ne.symm hj)]
        · rw [CutMap.read, if_neg (Ne.symm hj), CutMap.read, if_neg (Ne.symm hj)]
      · simp only [CutMap.read]
        split
        · rfl
        · exact ih hm

/-- Every entry of a written map is an old one or the one written. -/
theorem mem_write {e : Nat × Cell} (he : e ∈ CutMap.write top k c m) : e ∈ m ∨ e = (k, c) := by
  induction m with
  | nil =>
    simp only [CutMap.write] at he
    split at he <;> simp_all
  | cons x m ih =>
    obtain ⟨a, c0⟩ := x
    simp only [CutMap.write] at he
    split at he
    · split at he
      · exact .inl he
      · rcases List.mem_cons.mp he with h | h
        · exact .inr h
        · exact .inl h
    · split at he
      · split at he
        · exact .inl (List.mem_cons_of_mem _ he)
        · rcases List.mem_cons.mp he with h | h
          · exact .inr h
          · exact .inl (List.mem_cons_of_mem _ h)
      · rcases List.mem_cons.mp he with h | h
        · exact .inl (h ▸ List.mem_cons_self)
        · rcases ih h with h | h
          · exact .inl (List.mem_cons_of_mem _ h)
          · exact .inr h

/-- A write keeps the canonical form. -/
theorem wf_write (hm : CutMap.wf top m) : CutMap.wf top (CutMap.write top k c m) := by
  induction m with
  | nil =>
    simp only [CutMap.write]
    split
    · exact wf_nil
    · exact wf_cons.mpr ⟨by simp, by assumption, wf_nil⟩
  | cons x m ih =>
    obtain ⟨a, c0⟩ := x
    have hall := hm
    obtain ⟨ha, h0, hm⟩ := wf_cons.mp hm
    simp only [CutMap.write]
    split
    · rename_i hk
      split
      · exact hall
      · refine wf_cons.mpr ⟨?_, by assumption, hall⟩
        intro e he
        rcases List.mem_cons.mp he with rfl | he
        · exact hk
        · exact Nat.lt_trans hk (ha e he)
    · split
      · rename_i hk
        split
        · exact hm
        · exact wf_cons.mpr ⟨fun e he => hk ▸ ha e he, by assumption, hm⟩
      · refine wf_cons.mpr ⟨?_, h0, ih hm⟩
        intro e he
        rcases mem_write he with h | h
        · exact ha e h
        · subst h
          show a < k
          omega

/-- A change of one cell keeps the canonical form. -/
theorem wf_modify {f : Cell → Cell} (hm : CutMap.wf top m) : CutMap.wf top (CutMap.modify top f k m) := wf_write hm

/-- Changes of a list of cells keep the canonical form. -/
theorem wf_modifyAll {f : Cell → Cell} {refs : List CellRef} (hm : CutMap.wf top m) :
    CutMap.wf top (CutMap.modifyAll top f refs m) := by
  induction refs generalizing m with
  | nil => exact hm
  | cons r refs ih => exact ih (m := CutMap.modify top f r.address m) (wf_modify hm)

/-- A changed cell reads as changed, every other as it was. -/
theorem read_modify {f : Cell → Cell} (hm : CutMap.wf top m) :
    CutMap.read top (CutMap.modify top f k m) j = if j = k then f (CutMap.read top m j) else CutMap.read top m j := by
  split
  · rename_i h
    subst h
    exact read_write_same hm
  · rename_i h
    exact read_write_other h hm

/-- After changes of cells at different addresses, each of them reads as changed once and every other as it was. -/
theorem read_modifyAll {f : Cell → Cell} {refs : List CellRef} (hm : CutMap.wf top m)
    (hr : (refs.map CellRef.address).Nodup) :
    CutMap.read top (CutMap.modifyAll top f refs m) j =
      if j ∈ refs.map CellRef.address then f (CutMap.read top m j) else CutMap.read top m j := by
  induction refs generalizing m with
  | nil => simp [CutMap.modifyAll]
  | cons r refs ih =>
    simp only [List.map_cons, List.nodup_cons] at hr
    have h := ih (m := CutMap.modify top f r.address m) (wf_modify hm) hr.2
    show CutMap.read top (CutMap.modifyAll top f refs (CutMap.modify top f r.address m)) j = _
    rw [h, read_modify hm]
    by_cases hj : j = r.address
    · subst hj
      simp [hr.1]
    · simp [hj]

/-- Two cells of columns below 256 with one address are one cell. -/
theorem address_inj {x y : CellRef} (hx : x.column < 256) (hy : y.column < 256) (h : x.address = y.address) : x = y := by
  obtain ⟨xc, xr⟩ := x
  obtain ⟨yc, yr⟩ := y
  simp only [CellRef.address] at *
  simp only [CellRef.mk.injEq]
  omega

end Sys2Proof.Laws.CutMap
end

