-- ==== Sys2Proof/Laws/State.lean ====
section
/-! SUPPORT. One lemma for each field after each update of the state, so that no proof unfolds a record update. -/

namespace Sys2Proof.Machine

section
variable (s : State)

@[simp] theorem State.withPending_pending (v : List Instr) : (s.withPending v).pending = v := rfl
@[simp] theorem State.withPending_arriving (v : List Instr) : (s.withPending v).arriving = s.arriving := rfl
@[simp] theorem State.withPending_receivers (v : List Instr) : (s.withPending v).receivers = s.receivers := rfl
@[simp] theorem State.withPending_pins (v : List Instr) : (s.withPending v).pins = s.pins := rfl
@[simp] theorem State.withPending_block (v : List Instr) : (s.withPending v).block = s.block := rfl
@[simp] theorem State.withPending_cells (v : List Instr) : (s.withPending v).cells = s.cells := rfl
@[simp] theorem State.withPending_grades (v : List Instr) : (s.withPending v).grades = s.grades := rfl
@[simp] theorem State.withPending_windows (v : List Instr) : (s.withPending v).windows = s.windows := rfl
@[simp] theorem State.withPending_heads (v : List Instr) : (s.withPending v).heads = s.heads := rfl
@[simp] theorem State.withPending_waitList (v : List Instr) : (s.withPending v).waitList = s.waitList := rfl
@[simp] theorem State.withPending_occasions (v : List Instr) : (s.withPending v).occasions = s.occasions := rfl
@[simp] theorem State.withPending_sources (v : List Instr) : (s.withPending v).sources = s.sources := rfl
@[simp] theorem State.withPending_mgmt (v : List Instr) : (s.withPending v).mgmt = s.mgmt := rfl
@[simp] theorem State.withPending_counters (v : List Instr) : (s.withPending v).counters = s.counters := rfl
@[simp] theorem State.withPending_out (v : List Instr) : (s.withPending v).out = s.out := rfl
@[simp] theorem State.withPending_drive (v : List Instr) : (s.withPending v).drive = s.drive := rfl
@[simp] theorem State.withPending_fresh (v : List Instr) : (s.withPending v).fresh = s.fresh := rfl

@[simp] theorem State.withArriving_pending (v : List Signal) : (s.withArriving v).pending = s.pending := rfl
@[simp] theorem State.withArriving_arriving (v : List Signal) : (s.withArriving v).arriving = v := rfl
@[simp] theorem State.withArriving_receivers (v : List Signal) : (s.withArriving v).receivers = s.receivers := rfl
@[simp] theorem State.withArriving_pins (v : List Signal) : (s.withArriving v).pins = s.pins := rfl
@[simp] theorem State.withArriving_block (v : List Signal) : (s.withArriving v).block = s.block := rfl
@[simp] theorem State.withArriving_cells (v : List Signal) : (s.withArriving v).cells = s.cells := rfl
@[simp] theorem State.withArriving_grades (v : List Signal) : (s.withArriving v).grades = s.grades := rfl
@[simp] theorem State.withArriving_windows (v : List Signal) : (s.withArriving v).windows = s.windows := rfl
@[simp] theorem State.withArriving_heads (v : List Signal) : (s.withArriving v).heads = s.heads := rfl
@[simp] theorem State.withArriving_waitList (v : List Signal) : (s.withArriving v).waitList = s.waitList := rfl
@[simp] theorem State.withArriving_occasions (v : List Signal) : (s.withArriving v).occasions = s.occasions := rfl
@[simp] theorem State.withArriving_sources (v : List Signal) : (s.withArriving v).sources = s.sources := rfl
@[simp] theorem State.withArriving_mgmt (v : List Signal) : (s.withArriving v).mgmt = s.mgmt := rfl
@[simp] theorem State.withArriving_counters (v : List Signal) : (s.withArriving v).counters = s.counters := rfl
@[simp] theorem State.withArriving_out (v : List Signal) : (s.withArriving v).out = s.out := rfl
@[simp] theorem State.withArriving_drive (v : List Signal) : (s.withArriving v).drive = s.drive := rfl
@[simp] theorem State.withArriving_fresh (v : List Signal) : (s.withArriving v).fresh = s.fresh := rfl

@[simp] theorem State.withReceivers_pending (v : Receivers) : (s.withReceivers v).pending = s.pending := rfl
@[simp] theorem State.withReceivers_arriving (v : Receivers) : (s.withReceivers v).arriving = s.arriving := rfl
@[simp] theorem State.withReceivers_receivers (v : Receivers) : (s.withReceivers v).receivers = v := rfl
@[simp] theorem State.withReceivers_pins (v : Receivers) : (s.withReceivers v).pins = s.pins := rfl
@[simp] theorem State.withReceivers_block (v : Receivers) : (s.withReceivers v).block = s.block := rfl
@[simp] theorem State.withReceivers_cells (v : Receivers) : (s.withReceivers v).cells = s.cells := rfl
@[simp] theorem State.withReceivers_grades (v : Receivers) : (s.withReceivers v).grades = s.grades := rfl
@[simp] theorem State.withReceivers_windows (v : Receivers) : (s.withReceivers v).windows = s.windows := rfl
@[simp] theorem State.withReceivers_heads (v : Receivers) : (s.withReceivers v).heads = s.heads := rfl
@[simp] theorem State.withReceivers_waitList (v : Receivers) : (s.withReceivers v).waitList = s.waitList := rfl
@[simp] theorem State.withReceivers_occasions (v : Receivers) : (s.withReceivers v).occasions = s.occasions := rfl
@[simp] theorem State.withReceivers_sources (v : Receivers) : (s.withReceivers v).sources = s.sources := rfl
@[simp] theorem State.withReceivers_mgmt (v : Receivers) : (s.withReceivers v).mgmt = s.mgmt := rfl
@[simp] theorem State.withReceivers_counters (v : Receivers) : (s.withReceivers v).counters = s.counters := rfl
@[simp] theorem State.withReceivers_out (v : Receivers) : (s.withReceivers v).out = s.out := rfl
@[simp] theorem State.withReceivers_drive (v : Receivers) : (s.withReceivers v).drive = s.drive := rfl
@[simp] theorem State.withReceivers_fresh (v : Receivers) : (s.withReceivers v).fresh = s.fresh := rfl

@[simp] theorem State.withPins_pending (v : Pins) : (s.withPins v).pending = s.pending := rfl
@[simp] theorem State.withPins_arriving (v : Pins) : (s.withPins v).arriving = s.arriving := rfl
@[simp] theorem State.withPins_receivers (v : Pins) : (s.withPins v).receivers = s.receivers := rfl
@[simp] theorem State.withPins_pins (v : Pins) : (s.withPins v).pins = v := rfl
@[simp] theorem State.withPins_block (v : Pins) : (s.withPins v).block = s.block := rfl
@[simp] theorem State.withPins_cells (v : Pins) : (s.withPins v).cells = s.cells := rfl
@[simp] theorem State.withPins_grades (v : Pins) : (s.withPins v).grades = s.grades := rfl
@[simp] theorem State.withPins_windows (v : Pins) : (s.withPins v).windows = s.windows := rfl
@[simp] theorem State.withPins_heads (v : Pins) : (s.withPins v).heads = s.heads := rfl
@[simp] theorem State.withPins_waitList (v : Pins) : (s.withPins v).waitList = s.waitList := rfl
@[simp] theorem State.withPins_occasions (v : Pins) : (s.withPins v).occasions = s.occasions := rfl
@[simp] theorem State.withPins_sources (v : Pins) : (s.withPins v).sources = s.sources := rfl
@[simp] theorem State.withPins_mgmt (v : Pins) : (s.withPins v).mgmt = s.mgmt := rfl
@[simp] theorem State.withPins_counters (v : Pins) : (s.withPins v).counters = s.counters := rfl
@[simp] theorem State.withPins_out (v : Pins) : (s.withPins v).out = s.out := rfl
@[simp] theorem State.withPins_drive (v : Pins) : (s.withPins v).drive = s.drive := rfl
@[simp] theorem State.withPins_fresh (v : Pins) : (s.withPins v).fresh = s.fresh := rfl

@[simp] theorem State.withBlock_pending (v : BlockRecord) : (s.withBlock v).pending = s.pending := rfl
@[simp] theorem State.withBlock_arriving (v : BlockRecord) : (s.withBlock v).arriving = s.arriving := rfl
@[simp] theorem State.withBlock_receivers (v : BlockRecord) : (s.withBlock v).receivers = s.receivers := rfl
@[simp] theorem State.withBlock_pins (v : BlockRecord) : (s.withBlock v).pins = s.pins := rfl
@[simp] theorem State.withBlock_block (v : BlockRecord) : (s.withBlock v).block = v := rfl
@[simp] theorem State.withBlock_cells (v : BlockRecord) : (s.withBlock v).cells = s.cells := rfl
@[simp] theorem State.withBlock_grades (v : BlockRecord) : (s.withBlock v).grades = s.grades := rfl
@[simp] theorem State.withBlock_windows (v : BlockRecord) : (s.withBlock v).windows = s.windows := rfl
@[simp] theorem State.withBlock_heads (v : BlockRecord) : (s.withBlock v).heads = s.heads := rfl
@[simp] theorem State.withBlock_waitList (v : BlockRecord) : (s.withBlock v).waitList = s.waitList := rfl
@[simp] theorem State.withBlock_occasions (v : BlockRecord) : (s.withBlock v).occasions = s.occasions := rfl
@[simp] theorem State.withBlock_sources (v : BlockRecord) : (s.withBlock v).sources = s.sources := rfl
@[simp] theorem State.withBlock_mgmt (v : BlockRecord) : (s.withBlock v).mgmt = s.mgmt := rfl
@[simp] theorem State.withBlock_counters (v : BlockRecord) : (s.withBlock v).counters = s.counters := rfl
@[simp] theorem State.withBlock_out (v : BlockRecord) : (s.withBlock v).out = s.out := rfl
@[simp] theorem State.withBlock_drive (v : BlockRecord) : (s.withBlock v).drive = s.drive := rfl
@[simp] theorem State.withBlock_fresh (v : BlockRecord) : (s.withBlock v).fresh = s.fresh := rfl

@[simp] theorem State.withCells_pending (v : CutMap) : (s.withCells v).pending = s.pending := rfl
@[simp] theorem State.withCells_arriving (v : CutMap) : (s.withCells v).arriving = s.arriving := rfl
@[simp] theorem State.withCells_receivers (v : CutMap) : (s.withCells v).receivers = s.receivers := rfl
@[simp] theorem State.withCells_pins (v : CutMap) : (s.withCells v).pins = s.pins := rfl
@[simp] theorem State.withCells_block (v : CutMap) : (s.withCells v).block = s.block := rfl
@[simp] theorem State.withCells_cells (v : CutMap) : (s.withCells v).cells = v := rfl
@[simp] theorem State.withCells_grades (v : CutMap) : (s.withCells v).grades = s.grades := rfl
@[simp] theorem State.withCells_windows (v : CutMap) : (s.withCells v).windows = s.windows := rfl
@[simp] theorem State.withCells_heads (v : CutMap) : (s.withCells v).heads = s.heads := rfl
@[simp] theorem State.withCells_waitList (v : CutMap) : (s.withCells v).waitList = s.waitList := rfl
@[simp] theorem State.withCells_occasions (v : CutMap) : (s.withCells v).occasions = s.occasions := rfl
@[simp] theorem State.withCells_sources (v : CutMap) : (s.withCells v).sources = s.sources := rfl
@[simp] theorem State.withCells_mgmt (v : CutMap) : (s.withCells v).mgmt = s.mgmt := rfl
@[simp] theorem State.withCells_counters (v : CutMap) : (s.withCells v).counters = s.counters := rfl
@[simp] theorem State.withCells_out (v : CutMap) : (s.withCells v).out = s.out := rfl
@[simp] theorem State.withCells_drive (v : CutMap) : (s.withCells v).drive = s.drive := rfl
@[simp] theorem State.withCells_fresh (v : CutMap) : (s.withCells v).fresh = s.fresh := rfl

@[simp] theorem State.withGrades_pending (v : Vector GradeEntry 16) : (s.withGrades v).pending = s.pending := rfl
@[simp] theorem State.withGrades_arriving (v : Vector GradeEntry 16) : (s.withGrades v).arriving = s.arriving := rfl
@[simp] theorem State.withGrades_receivers (v : Vector GradeEntry 16) :
    (s.withGrades v).receivers = s.receivers := rfl
@[simp] theorem State.withGrades_pins (v : Vector GradeEntry 16) : (s.withGrades v).pins = s.pins := rfl
@[simp] theorem State.withGrades_block (v : Vector GradeEntry 16) : (s.withGrades v).block = s.block := rfl
@[simp] theorem State.withGrades_cells (v : Vector GradeEntry 16) : (s.withGrades v).cells = s.cells := rfl
@[simp] theorem State.withGrades_grades (v : Vector GradeEntry 16) : (s.withGrades v).grades = v := rfl
@[simp] theorem State.withGrades_windows (v : Vector GradeEntry 16) : (s.withGrades v).windows = s.windows := rfl
@[simp] theorem State.withGrades_heads (v : Vector GradeEntry 16) : (s.withGrades v).heads = s.heads := rfl
@[simp] theorem State.withGrades_waitList (v : Vector GradeEntry 16) : (s.withGrades v).waitList = s.waitList := rfl
@[simp] theorem State.withGrades_occasions (v : Vector GradeEntry 16) :
    (s.withGrades v).occasions = s.occasions := rfl
@[simp] theorem State.withGrades_sources (v : Vector GradeEntry 16) : (s.withGrades v).sources = s.sources := rfl
@[simp] theorem State.withGrades_mgmt (v : Vector GradeEntry 16) : (s.withGrades v).mgmt = s.mgmt := rfl
@[simp] theorem State.withGrades_counters (v : Vector GradeEntry 16) : (s.withGrades v).counters = s.counters := rfl
@[simp] theorem State.withGrades_out (v : Vector GradeEntry 16) : (s.withGrades v).out = s.out := rfl
@[simp] theorem State.withGrades_drive (v : Vector GradeEntry 16) : (s.withGrades v).drive = s.drive := rfl
@[simp] theorem State.withGrades_fresh (v : Vector GradeEntry 16) : (s.withGrades v).fresh = s.fresh := rfl

@[simp] theorem State.withWindows_pending (v : Vector TagWindow 4) : (s.withWindows v).pending = s.pending := rfl
@[simp] theorem State.withWindows_arriving (v : Vector TagWindow 4) : (s.withWindows v).arriving = s.arriving := rfl
@[simp] theorem State.withWindows_receivers (v : Vector TagWindow 4) :
    (s.withWindows v).receivers = s.receivers := rfl
@[simp] theorem State.withWindows_pins (v : Vector TagWindow 4) : (s.withWindows v).pins = s.pins := rfl
@[simp] theorem State.withWindows_block (v : Vector TagWindow 4) : (s.withWindows v).block = s.block := rfl
@[simp] theorem State.withWindows_cells (v : Vector TagWindow 4) : (s.withWindows v).cells = s.cells := rfl
@[simp] theorem State.withWindows_grades (v : Vector TagWindow 4) : (s.withWindows v).grades = s.grades := rfl
@[simp] theorem State.withWindows_windows (v : Vector TagWindow 4) : (s.withWindows v).windows = v := rfl
@[simp] theorem State.withWindows_heads (v : Vector TagWindow 4) : (s.withWindows v).heads = s.heads := rfl
@[simp] theorem State.withWindows_waitList (v : Vector TagWindow 4) : (s.withWindows v).waitList = s.waitList := rfl
@[simp] theorem State.withWindows_occasions (v : Vector TagWindow 4) :
    (s.withWindows v).occasions = s.occasions := rfl
@[simp] theorem State.withWindows_sources (v : Vector TagWindow 4) : (s.withWindows v).sources = s.sources := rfl
@[simp] theorem State.withWindows_mgmt (v : Vector TagWindow 4) : (s.withWindows v).mgmt = s.mgmt := rfl
@[simp] theorem State.withWindows_counters (v : Vector TagWindow 4) : (s.withWindows v).counters = s.counters := rfl
@[simp] theorem State.withWindows_out (v : Vector TagWindow 4) : (s.withWindows v).out = s.out := rfl
@[simp] theorem State.withWindows_drive (v : Vector TagWindow 4) : (s.withWindows v).drive = s.drive := rfl
@[simp] theorem State.withWindows_fresh (v : Vector TagWindow 4) : (s.withWindows v).fresh = s.fresh := rfl

@[simp] theorem State.withHeads_pending (v : Vector HeadRecord 4) : (s.withHeads v).pending = s.pending := rfl
@[simp] theorem State.withHeads_arriving (v : Vector HeadRecord 4) : (s.withHeads v).arriving = s.arriving := rfl
@[simp] theorem State.withHeads_receivers (v : Vector HeadRecord 4) : (s.withHeads v).receivers = s.receivers := rfl
@[simp] theorem State.withHeads_pins (v : Vector HeadRecord 4) : (s.withHeads v).pins = s.pins := rfl
@[simp] theorem State.withHeads_block (v : Vector HeadRecord 4) : (s.withHeads v).block = s.block := rfl
@[simp] theorem State.withHeads_cells (v : Vector HeadRecord 4) : (s.withHeads v).cells = s.cells := rfl
@[simp] theorem State.withHeads_grades (v : Vector HeadRecord 4) : (s.withHeads v).grades = s.grades := rfl
@[simp] theorem State.withHeads_windows (v : Vector HeadRecord 4) : (s.withHeads v).windows = s.windows := rfl
@[simp] theorem State.withHeads_heads (v : Vector HeadRecord 4) : (s.withHeads v).heads = v := rfl
@[simp] theorem State.withHeads_waitList (v : Vector HeadRecord 4) : (s.withHeads v).waitList = s.waitList := rfl
@[simp] theorem State.withHeads_occasions (v : Vector HeadRecord 4) : (s.withHeads v).occasions = s.occasions := rfl
@[simp] theorem State.withHeads_sources (v : Vector HeadRecord 4) : (s.withHeads v).sources = s.sources := rfl
@[simp] theorem State.withHeads_mgmt (v : Vector HeadRecord 4) : (s.withHeads v).mgmt = s.mgmt := rfl
@[simp] theorem State.withHeads_counters (v : Vector HeadRecord 4) : (s.withHeads v).counters = s.counters := rfl
@[simp] theorem State.withHeads_out (v : Vector HeadRecord 4) : (s.withHeads v).out = s.out := rfl
@[simp] theorem State.withHeads_drive (v : Vector HeadRecord 4) : (s.withHeads v).drive = s.drive := rfl
@[simp] theorem State.withHeads_fresh (v : Vector HeadRecord 4) : (s.withHeads v).fresh = s.fresh := rfl

@[simp] theorem State.withWaitList_pending (v : List WaitEntry) : (s.withWaitList v).pending = s.pending := rfl
@[simp] theorem State.withWaitList_arriving (v : List WaitEntry) : (s.withWaitList v).arriving = s.arriving := rfl
@[simp] theorem State.withWaitList_receivers (v : List WaitEntry) : (s.withWaitList v).receivers = s.receivers := rfl
@[simp] theorem State.withWaitList_pins (v : List WaitEntry) : (s.withWaitList v).pins = s.pins := rfl
@[simp] theorem State.withWaitList_block (v : List WaitEntry) : (s.withWaitList v).block = s.block := rfl
@[simp] theorem State.withWaitList_cells (v : List WaitEntry) : (s.withWaitList v).cells = s.cells := rfl
@[simp] theorem State.withWaitList_grades (v : List WaitEntry) : (s.withWaitList v).grades = s.grades := rfl
@[simp] theorem State.withWaitList_windows (v : List WaitEntry) : (s.withWaitList v).windows = s.windows := rfl
@[simp] theorem State.withWaitList_heads (v : List WaitEntry) : (s.withWaitList v).heads = s.heads := rfl
@[simp] theorem State.withWaitList_waitList (v : List WaitEntry) : (s.withWaitList v).waitList = v := rfl
@[simp] theorem State.withWaitList_occasions (v : List WaitEntry) : (s.withWaitList v).occasions = s.occasions := rfl
@[simp] theorem State.withWaitList_sources (v : List WaitEntry) : (s.withWaitList v).sources = s.sources := rfl
@[simp] theorem State.withWaitList_mgmt (v : List WaitEntry) : (s.withWaitList v).mgmt = s.mgmt := rfl
@[simp] theorem State.withWaitList_counters (v : List WaitEntry) : (s.withWaitList v).counters = s.counters := rfl
@[simp] theorem State.withWaitList_out (v : List WaitEntry) : (s.withWaitList v).out = s.out := rfl
@[simp] theorem State.withWaitList_drive (v : List WaitEntry) : (s.withWaitList v).drive = s.drive := rfl
@[simp] theorem State.withWaitList_fresh (v : List WaitEntry) : (s.withWaitList v).fresh = s.fresh := rfl

@[simp] theorem State.withOccasions_pending (v : List Occasion) : (s.withOccasions v).pending = s.pending := rfl
@[simp] theorem State.withOccasions_arriving (v : List Occasion) : (s.withOccasions v).arriving = s.arriving := rfl
@[simp] theorem State.withOccasions_receivers (v : List Occasion) : (s.withOccasions v).receivers = s.receivers := rfl
@[simp] theorem State.withOccasions_pins (v : List Occasion) : (s.withOccasions v).pins = s.pins := rfl
@[simp] theorem State.withOccasions_block (v : List Occasion) : (s.withOccasions v).block = s.block := rfl
@[simp] theorem State.withOccasions_cells (v : List Occasion) : (s.withOccasions v).cells = s.cells := rfl
@[simp] theorem State.withOccasions_grades (v : List Occasion) : (s.withOccasions v).grades = s.grades := rfl
@[simp] theorem State.withOccasions_windows (v : List Occasion) : (s.withOccasions v).windows = s.windows := rfl
@[simp] theorem State.withOccasions_heads (v : List Occasion) : (s.withOccasions v).heads = s.heads := rfl
@[simp] theorem State.withOccasions_waitList (v : List Occasion) : (s.withOccasions v).waitList = s.waitList := rfl
@[simp] theorem State.withOccasions_occasions (v : List Occasion) : (s.withOccasions v).occasions = v := rfl
@[simp] theorem State.withOccasions_sources (v : List Occasion) : (s.withOccasions v).sources = s.sources := rfl
@[simp] theorem State.withOccasions_mgmt (v : List Occasion) : (s.withOccasions v).mgmt = s.mgmt := rfl
@[simp] theorem State.withOccasions_counters (v : List Occasion) : (s.withOccasions v).counters = s.counters := rfl
@[simp] theorem State.withOccasions_out (v : List Occasion) : (s.withOccasions v).out = s.out := rfl
@[simp] theorem State.withOccasions_drive (v : List Occasion) : (s.withOccasions v).drive = s.drive := rfl
@[simp] theorem State.withOccasions_fresh (v : List Occasion) : (s.withOccasions v).fresh = s.fresh := rfl

@[simp] theorem State.withSources_pending (v : Vector SourceRecord 4) : (s.withSources v).pending = s.pending := rfl
@[simp] theorem State.withSources_arriving (v : Vector SourceRecord 4) :
    (s.withSources v).arriving = s.arriving := rfl
@[simp] theorem State.withSources_receivers (v : Vector SourceRecord 4) :
    (s.withSources v).receivers = s.receivers := rfl
@[simp] theorem State.withSources_pins (v : Vector SourceRecord 4) : (s.withSources v).pins = s.pins := rfl
@[simp] theorem State.withSources_block (v : Vector SourceRecord 4) : (s.withSources v).block = s.block := rfl
@[simp] theorem State.withSources_cells (v : Vector SourceRecord 4) : (s.withSources v).cells = s.cells := rfl
@[simp] theorem State.withSources_grades (v : Vector SourceRecord 4) : (s.withSources v).grades = s.grades := rfl
@[simp] theorem State.withSources_windows (v : Vector SourceRecord 4) : (s.withSources v).windows = s.windows := rfl
@[simp] theorem State.withSources_heads (v : Vector SourceRecord 4) : (s.withSources v).heads = s.heads := rfl
@[simp] theorem State.withSources_waitList (v : Vector SourceRecord 4) :
    (s.withSources v).waitList = s.waitList := rfl
@[simp] theorem State.withSources_occasions (v : Vector SourceRecord 4) :
    (s.withSources v).occasions = s.occasions := rfl
@[simp] theorem State.withSources_sources (v : Vector SourceRecord 4) : (s.withSources v).sources = v := rfl
@[simp] theorem State.withSources_mgmt (v : Vector SourceRecord 4) : (s.withSources v).mgmt = s.mgmt := rfl
@[simp] theorem State.withSources_counters (v : Vector SourceRecord 4) :
    (s.withSources v).counters = s.counters := rfl
@[simp] theorem State.withSources_out (v : Vector SourceRecord 4) : (s.withSources v).out = s.out := rfl
@[simp] theorem State.withSources_drive (v : Vector SourceRecord 4) : (s.withSources v).drive = s.drive := rfl
@[simp] theorem State.withSources_fresh (v : Vector SourceRecord 4) : (s.withSources v).fresh = s.fresh := rfl

@[simp] theorem State.withMgmt_pending (v : Management) : (s.withMgmt v).pending = s.pending := rfl
@[simp] theorem State.withMgmt_arriving (v : Management) : (s.withMgmt v).arriving = s.arriving := rfl
@[simp] theorem State.withMgmt_receivers (v : Management) : (s.withMgmt v).receivers = s.receivers := rfl
@[simp] theorem State.withMgmt_pins (v : Management) : (s.withMgmt v).pins = s.pins := rfl
@[simp] theorem State.withMgmt_block (v : Management) : (s.withMgmt v).block = s.block := rfl
@[simp] theorem State.withMgmt_cells (v : Management) : (s.withMgmt v).cells = s.cells := rfl
@[simp] theorem State.withMgmt_grades (v : Management) : (s.withMgmt v).grades = s.grades := rfl
@[simp] theorem State.withMgmt_windows (v : Management) : (s.withMgmt v).windows = s.windows := rfl
@[simp] theorem State.withMgmt_heads (v : Management) : (s.withMgmt v).heads = s.heads := rfl
@[simp] theorem State.withMgmt_waitList (v : Management) : (s.withMgmt v).waitList = s.waitList := rfl
@[simp] theorem State.withMgmt_occasions (v : Management) : (s.withMgmt v).occasions = s.occasions := rfl
@[simp] theorem State.withMgmt_sources (v : Management) : (s.withMgmt v).sources = s.sources := rfl
@[simp] theorem State.withMgmt_mgmt (v : Management) : (s.withMgmt v).mgmt = v := rfl
@[simp] theorem State.withMgmt_counters (v : Management) : (s.withMgmt v).counters = s.counters := rfl
@[simp] theorem State.withMgmt_out (v : Management) : (s.withMgmt v).out = s.out := rfl
@[simp] theorem State.withMgmt_drive (v : Management) : (s.withMgmt v).drive = s.drive := rfl
@[simp] theorem State.withMgmt_fresh (v : Management) : (s.withMgmt v).fresh = s.fresh := rfl

@[simp] theorem State.withCounters_pending (v : LinkCounters) : (s.withCounters v).pending = s.pending := rfl
@[simp] theorem State.withCounters_arriving (v : LinkCounters) : (s.withCounters v).arriving = s.arriving := rfl
@[simp] theorem State.withCounters_receivers (v : LinkCounters) : (s.withCounters v).receivers = s.receivers := rfl
@[simp] theorem State.withCounters_pins (v : LinkCounters) : (s.withCounters v).pins = s.pins := rfl
@[simp] theorem State.withCounters_block (v : LinkCounters) : (s.withCounters v).block = s.block := rfl
@[simp] theorem State.withCounters_cells (v : LinkCounters) : (s.withCounters v).cells = s.cells := rfl
@[simp] theorem State.withCounters_grades (v : LinkCounters) : (s.withCounters v).grades = s.grades := rfl
@[simp] theorem State.withCounters_windows (v : LinkCounters) : (s.withCounters v).windows = s.windows := rfl
@[simp] theorem State.withCounters_heads (v : LinkCounters) : (s.withCounters v).heads = s.heads := rfl
@[simp] theorem State.withCounters_waitList (v : LinkCounters) : (s.withCounters v).waitList = s.waitList := rfl
@[simp] theorem State.withCounters_occasions (v : LinkCounters) : (s.withCounters v).occasions = s.occasions := rfl
@[simp] theorem State.withCounters_sources (v : LinkCounters) : (s.withCounters v).sources = s.sources := rfl
@[simp] theorem State.withCounters_mgmt (v : LinkCounters) : (s.withCounters v).mgmt = s.mgmt := rfl
@[simp] theorem State.withCounters_counters (v : LinkCounters) : (s.withCounters v).counters = v := rfl
@[simp] theorem State.withCounters_out (v : LinkCounters) : (s.withCounters v).out = s.out := rfl
@[simp] theorem State.withCounters_drive (v : LinkCounters) : (s.withCounters v).drive = s.drive := rfl
@[simp] theorem State.withCounters_fresh (v : LinkCounters) : (s.withCounters v).fresh = s.fresh := rfl

@[simp] theorem State.withOut_pending (v : Outbound) : (s.withOut v).pending = s.pending := rfl
@[simp] theorem State.withOut_arriving (v : Outbound) : (s.withOut v).arriving = s.arriving := rfl
@[simp] theorem State.withOut_receivers (v : Outbound) : (s.withOut v).receivers = s.receivers := rfl
@[simp] theorem State.withOut_pins (v : Outbound) : (s.withOut v).pins = s.pins := rfl
@[simp] theorem State.withOut_block (v : Outbound) : (s.withOut v).block = s.block := rfl
@[simp] theorem State.withOut_cells (v : Outbound) : (s.withOut v).cells = s.cells := rfl
@[simp] theorem State.withOut_grades (v : Outbound) : (s.withOut v).grades = s.grades := rfl
@[simp] theorem State.withOut_windows (v : Outbound) : (s.withOut v).windows = s.windows := rfl
@[simp] theorem State.withOut_heads (v : Outbound) : (s.withOut v).heads = s.heads := rfl
@[simp] theorem State.withOut_waitList (v : Outbound) : (s.withOut v).waitList = s.waitList := rfl
@[simp] theorem State.withOut_occasions (v : Outbound) : (s.withOut v).occasions = s.occasions := rfl
@[simp] theorem State.withOut_sources (v : Outbound) : (s.withOut v).sources = s.sources := rfl
@[simp] theorem State.withOut_mgmt (v : Outbound) : (s.withOut v).mgmt = s.mgmt := rfl
@[simp] theorem State.withOut_counters (v : Outbound) : (s.withOut v).counters = s.counters := rfl
@[simp] theorem State.withOut_out (v : Outbound) : (s.withOut v).out = v := rfl
@[simp] theorem State.withOut_drive (v : Outbound) : (s.withOut v).drive = s.drive := rfl
@[simp] theorem State.withOut_fresh (v : Outbound) : (s.withOut v).fresh = s.fresh := rfl

@[simp] theorem State.withDrive_pending (v : DrivePort) : (s.withDrive v).pending = s.pending := rfl
@[simp] theorem State.withDrive_arriving (v : DrivePort) : (s.withDrive v).arriving = s.arriving := rfl
@[simp] theorem State.withDrive_receivers (v : DrivePort) : (s.withDrive v).receivers = s.receivers := rfl
@[simp] theorem State.withDrive_pins (v : DrivePort) : (s.withDrive v).pins = s.pins := rfl
@[simp] theorem State.withDrive_block (v : DrivePort) : (s.withDrive v).block = s.block := rfl
@[simp] theorem State.withDrive_cells (v : DrivePort) : (s.withDrive v).cells = s.cells := rfl
@[simp] theorem State.withDrive_grades (v : DrivePort) : (s.withDrive v).grades = s.grades := rfl
@[simp] theorem State.withDrive_windows (v : DrivePort) : (s.withDrive v).windows = s.windows := rfl
@[simp] theorem State.withDrive_heads (v : DrivePort) : (s.withDrive v).heads = s.heads := rfl
@[simp] theorem State.withDrive_waitList (v : DrivePort) : (s.withDrive v).waitList = s.waitList := rfl
@[simp] theorem State.withDrive_occasions (v : DrivePort) : (s.withDrive v).occasions = s.occasions := rfl
@[simp] theorem State.withDrive_sources (v : DrivePort) : (s.withDrive v).sources = s.sources := rfl
@[simp] theorem State.withDrive_mgmt (v : DrivePort) : (s.withDrive v).mgmt = s.mgmt := rfl
@[simp] theorem State.withDrive_counters (v : DrivePort) : (s.withDrive v).counters = s.counters := rfl
@[simp] theorem State.withDrive_out (v : DrivePort) : (s.withDrive v).out = s.out := rfl
@[simp] theorem State.withDrive_drive (v : DrivePort) : (s.withDrive v).drive = v := rfl
@[simp] theorem State.withDrive_fresh (v : DrivePort) : (s.withDrive v).fresh = s.fresh := rfl

@[simp] theorem State.withFresh_pending (v : Nat) : (s.withFresh v).pending = s.pending := rfl
@[simp] theorem State.withFresh_arriving (v : Nat) : (s.withFresh v).arriving = s.arriving := rfl
@[simp] theorem State.withFresh_receivers (v : Nat) : (s.withFresh v).receivers = s.receivers := rfl
@[simp] theorem State.withFresh_pins (v : Nat) : (s.withFresh v).pins = s.pins := rfl
@[simp] theorem State.withFresh_block (v : Nat) : (s.withFresh v).block = s.block := rfl
@[simp] theorem State.withFresh_cells (v : Nat) : (s.withFresh v).cells = s.cells := rfl
@[simp] theorem State.withFresh_grades (v : Nat) : (s.withFresh v).grades = s.grades := rfl
@[simp] theorem State.withFresh_windows (v : Nat) : (s.withFresh v).windows = s.windows := rfl
@[simp] theorem State.withFresh_heads (v : Nat) : (s.withFresh v).heads = s.heads := rfl
@[simp] theorem State.withFresh_waitList (v : Nat) : (s.withFresh v).waitList = s.waitList := rfl
@[simp] theorem State.withFresh_occasions (v : Nat) : (s.withFresh v).occasions = s.occasions := rfl
@[simp] theorem State.withFresh_sources (v : Nat) : (s.withFresh v).sources = s.sources := rfl
@[simp] theorem State.withFresh_mgmt (v : Nat) : (s.withFresh v).mgmt = s.mgmt := rfl
@[simp] theorem State.withFresh_counters (v : Nat) : (s.withFresh v).counters = s.counters := rfl
@[simp] theorem State.withFresh_out (v : Nat) : (s.withFresh v).out = s.out := rfl
@[simp] theorem State.withFresh_drive (v : Nat) : (s.withFresh v).drive = s.drive := rfl
@[simp] theorem State.withFresh_fresh (v : Nat) : (s.withFresh v).fresh = v := rfl

end

end Sys2Proof.Machine
end

