-- ==== Sys2Proof/Laws/Heads.lean ====
section
/-! SUPPORT. The heads' records: what a change of one record does to each of the four, and what "some head" means. -/

namespace Sys2Proof.Machine

variable (s : State) (h g : Head)

@[simp] theorem State.head_setHead_same (hd : HeadRecord) : (s.setHead h hd).head h = hd := by
  show (s.heads.set h.val hd h.isLt)[h.val]'h.isLt = hd
  simp

@[simp] theorem State.head_setHead_other {hd : HeadRecord} (hg : g ≠ h) : (s.setHead h hd).head g = s.head g := by
  have hv : h.val ≠ g.val := fun e => hg (Fin.ext e.symm)
  show (s.heads.set h.val hd h.isLt)[g.val]'g.isLt = s.heads[g.val]'g.isLt
  exact Vector.getElem_set_ne h.isLt g.isLt hv

@[simp] theorem State.head_modHead_same (f : HeadRecord → HeadRecord) : (s.modHead h f).head h = f (s.head h) :=
  s.head_setHead_same h _

@[simp] theorem State.head_modHead_other {f : HeadRecord → HeadRecord} (hg : g ≠ h) :
    (s.modHead h f).head g = s.head g :=
  s.head_setHead_other h g hg

/-- The record of any head after a change of one. -/
theorem State.head_modHead (f : HeadRecord → HeadRecord) :
    (s.modHead h f).head g = if g = h then f (s.head g) else s.head g := by
  split
  · next e => subst e; exact s.head_modHead_same g f
  · next e => exact s.head_modHead_other h g e

@[simp] theorem State.head_withPending (v : List Instr) : (s.withPending v).head h = s.head h := rfl
@[simp] theorem State.head_withArriving (v : List Signal) : (s.withArriving v).head h = s.head h := rfl
@[simp] theorem State.head_withReceivers (v : Receivers) : (s.withReceivers v).head h = s.head h := rfl
@[simp] theorem State.head_withPins (v : Pins) : (s.withPins v).head h = s.head h := rfl
@[simp] theorem State.head_withBlock (v : BlockRecord) : (s.withBlock v).head h = s.head h := rfl
@[simp] theorem State.head_withCells (v : CutMap) : (s.withCells v).head h = s.head h := rfl
@[simp] theorem State.head_withGrades (v : Vector GradeEntry 16) : (s.withGrades v).head h = s.head h := rfl
@[simp] theorem State.head_withWindows (v : Vector TagWindow 4) : (s.withWindows v).head h = s.head h := rfl
@[simp] theorem State.head_withWaitList (v : List WaitEntry) : (s.withWaitList v).head h = s.head h := rfl
@[simp] theorem State.head_withOccasions (v : List Occasion) : (s.withOccasions v).head h = s.head h := rfl
@[simp] theorem State.head_withSources (v : Vector SourceRecord 4) : (s.withSources v).head h = s.head h := rfl
@[simp] theorem State.head_withMgmt (v : Management) : (s.withMgmt v).head h = s.head h := rfl
@[simp] theorem State.head_withCounters (v : LinkCounters) : (s.withCounters v).head h = s.head h := rfl
@[simp] theorem State.head_withOut (v : Outbound) : (s.withOut v).head h = s.head h := rfl
@[simp] theorem State.head_withDrive (v : DrivePort) : (s.withDrive v).head h = s.head h := rfl
@[simp] theorem State.head_withFresh (v : Nat) : (s.withFresh v).head h = s.head h := rfl

/-- Equal heads are equal records. -/
theorem State.head_of_heads {s t : State} (e : t.heads = s.heads) : t.head h = s.head h := by
  simp [State.head, e]

/-- Heads with equal records are equal. -/
theorem State.heads_of_head {s t : State} (e : ∀ h, t.head h = s.head h) : t.heads = s.heads := by
  apply Vector.ext
  intro i hi
  exact e ⟨i, hi⟩

/-- A property of some head's record, as the machine tests it. -/
theorem State.any_heads (p : HeadRecord → Bool) : s.heads.toList.any p = true ↔ ∃ h, p (s.head h) = true := by
  simp only [List.any_eq_true, Vector.mem_toList_iff, Vector.mem_iff_getElem]
  constructor
  · rintro ⟨x, ⟨i, hi, rfl⟩, hx⟩
    exact ⟨⟨i, hi⟩, hx⟩
  · rintro ⟨h, hx⟩
    exact ⟨_, ⟨h.val, h.isLt, rfl⟩, hx⟩

/-- The four heads' records in order. -/
theorem State.heads_toList : s.heads.toList = [s.head 0, s.head 1, s.head 2, s.head 3] := by
  apply List.ext_getElem
  · simp
  · intro i h1 h2
    simp only [Vector.length_toList] at h1
    match i, h1 with
    | 0, _ | 1, _ | 2, _ | 3, _ => rfl

theorem State.anyInFlight_iff : s.anyInFlight = true ↔ ∃ h, (s.head h).inFlight ≠ [] := by
  rw [State.anyInFlight, State.any_heads]
  simp

theorem State.anyInFlight_eq_false : s.anyInFlight = false ↔ ∀ h, (s.head h).inFlight = [] := by
  rw [← Bool.not_eq_true, State.anyInFlight_iff]
  simp

end Sys2Proof.Machine
end

