-- ==== Sys2Proof/Laws/Frames.lean ====
section
/-! SUPPORT. What each shared operation leaves as it was: one lemma for each field that it does not touch. -/

namespace Sys2Proof.Machine

section
variable (s : State)

@[simp] theorem State.raise_pending (cls : EventClass) (d : Details) : (s.raise cls d).pending = s.pending := rfl
@[simp] theorem State.raise_arriving (cls : EventClass) (d : Details) : (s.raise cls d).arriving = s.arriving := rfl
@[simp] theorem State.raise_receivers (cls : EventClass) (d : Details) : (s.raise cls d).receivers = s.receivers := rfl
@[simp] theorem State.raise_pins (cls : EventClass) (d : Details) : (s.raise cls d).pins = s.pins := rfl
@[simp] theorem State.raise_block (cls : EventClass) (d : Details) : (s.raise cls d).block = s.block := rfl
@[simp] theorem State.raise_cells (cls : EventClass) (d : Details) : (s.raise cls d).cells = s.cells := rfl
@[simp] theorem State.raise_grades (cls : EventClass) (d : Details) : (s.raise cls d).grades = s.grades := rfl
@[simp] theorem State.raise_windows (cls : EventClass) (d : Details) : (s.raise cls d).windows = s.windows := rfl
@[simp] theorem State.raise_heads (cls : EventClass) (d : Details) : (s.raise cls d).heads = s.heads := rfl
@[simp] theorem State.raise_waitList (cls : EventClass) (d : Details) : (s.raise cls d).waitList = s.waitList := rfl
@[simp] theorem State.raise_occasions (cls : EventClass) (d : Details) :
    (s.raise cls d).occasions = s.occasions := rfl
@[simp] theorem State.raise_sources (cls : EventClass) (d : Details) : (s.raise cls d).sources = s.sources := rfl
@[simp] theorem State.raise_mgmt (cls : EventClass) (d : Details) : (s.raise cls d).mgmt = s.mgmt := rfl
@[simp] theorem State.raise_counters (cls : EventClass) (d : Details) : (s.raise cls d).counters = s.counters := rfl
@[simp] theorem State.raise_drive (cls : EventClass) (d : Details) : (s.raise cls d).drive = s.drive := rfl
@[simp] theorem State.raise_fresh (cls : EventClass) (d : Details) : (s.raise cls d).fresh = s.fresh := rfl

@[simp] theorem State.dropFrame_pending (link : Link) (error : LinkError) :
    (s.dropFrame link error).pending = s.pending := rfl
@[simp] theorem State.dropFrame_arriving (link : Link) (error : LinkError) :
    (s.dropFrame link error).arriving = s.arriving := rfl
@[simp] theorem State.dropFrame_receivers (link : Link) (error : LinkError) :
    (s.dropFrame link error).receivers = s.receivers := rfl
@[simp] theorem State.dropFrame_pins (link : Link) (error : LinkError) : (s.dropFrame link error).pins = s.pins := rfl
@[simp] theorem State.dropFrame_block (link : Link) (error : LinkError) :
    (s.dropFrame link error).block = s.block := rfl
@[simp] theorem State.dropFrame_cells (link : Link) (error : LinkError) :
    (s.dropFrame link error).cells = s.cells := rfl
@[simp] theorem State.dropFrame_grades (link : Link) (error : LinkError) :
    (s.dropFrame link error).grades = s.grades := rfl
@[simp] theorem State.dropFrame_windows (link : Link) (error : LinkError) :
    (s.dropFrame link error).windows = s.windows := rfl
@[simp] theorem State.dropFrame_heads (link : Link) (error : LinkError) :
    (s.dropFrame link error).heads = s.heads := rfl
@[simp] theorem State.dropFrame_waitList (link : Link) (error : LinkError) :
    (s.dropFrame link error).waitList = s.waitList := rfl
@[simp] theorem State.dropFrame_occasions (link : Link) (error : LinkError) :
    (s.dropFrame link error).occasions = s.occasions := rfl
@[simp] theorem State.dropFrame_sources (link : Link) (error : LinkError) :
    (s.dropFrame link error).sources = s.sources := rfl
@[simp] theorem State.dropFrame_mgmt (link : Link) (error : LinkError) : (s.dropFrame link error).mgmt = s.mgmt := rfl
@[simp] theorem State.dropFrame_drive (link : Link) (error : LinkError) :
    (s.dropFrame link error).drive = s.drive := rfl
@[simp] theorem State.dropFrame_fresh (link : Link) (error : LinkError) :
    (s.dropFrame link error).fresh = s.fresh := rfl

@[simp] theorem State.driveLineHold_pending : (s.driveLineHold).pending = s.pending := rfl
@[simp] theorem State.driveLineHold_arriving : (s.driveLineHold).arriving = s.arriving := rfl
@[simp] theorem State.driveLineHold_receivers : (s.driveLineHold).receivers = s.receivers := rfl
@[simp] theorem State.driveLineHold_block : (s.driveLineHold).block = s.block := rfl
@[simp] theorem State.driveLineHold_cells : (s.driveLineHold).cells = s.cells := rfl
@[simp] theorem State.driveLineHold_grades : (s.driveLineHold).grades = s.grades := rfl
@[simp] theorem State.driveLineHold_windows : (s.driveLineHold).windows = s.windows := rfl
@[simp] theorem State.driveLineHold_heads : (s.driveLineHold).heads = s.heads := rfl
@[simp] theorem State.driveLineHold_waitList : (s.driveLineHold).waitList = s.waitList := rfl
@[simp] theorem State.driveLineHold_occasions : (s.driveLineHold).occasions = s.occasions := rfl
@[simp] theorem State.driveLineHold_sources : (s.driveLineHold).sources = s.sources := rfl
@[simp] theorem State.driveLineHold_mgmt : (s.driveLineHold).mgmt = s.mgmt := rfl
@[simp] theorem State.driveLineHold_counters : (s.driveLineHold).counters = s.counters := rfl
@[simp] theorem State.driveLineHold_out : (s.driveLineHold).out = s.out := rfl
@[simp] theorem State.driveLineHold_drive : (s.driveLineHold).drive = s.drive := rfl
@[simp] theorem State.driveLineHold_fresh : (s.driveLineHold).fresh = s.fresh := rfl

@[simp] theorem State.setHead_pending (h : Head) (hd : HeadRecord) : (s.setHead h hd).pending = s.pending := rfl
@[simp] theorem State.setHead_arriving (h : Head) (hd : HeadRecord) : (s.setHead h hd).arriving = s.arriving := rfl
@[simp] theorem State.setHead_receivers (h : Head) (hd : HeadRecord) : (s.setHead h hd).receivers = s.receivers := rfl
@[simp] theorem State.setHead_pins (h : Head) (hd : HeadRecord) : (s.setHead h hd).pins = s.pins := rfl
@[simp] theorem State.setHead_block (h : Head) (hd : HeadRecord) : (s.setHead h hd).block = s.block := rfl
@[simp] theorem State.setHead_cells (h : Head) (hd : HeadRecord) : (s.setHead h hd).cells = s.cells := rfl
@[simp] theorem State.setHead_grades (h : Head) (hd : HeadRecord) : (s.setHead h hd).grades = s.grades := rfl
@[simp] theorem State.setHead_windows (h : Head) (hd : HeadRecord) : (s.setHead h hd).windows = s.windows := rfl
@[simp] theorem State.setHead_waitList (h : Head) (hd : HeadRecord) : (s.setHead h hd).waitList = s.waitList := rfl
@[simp] theorem State.setHead_occasions (h : Head) (hd : HeadRecord) : (s.setHead h hd).occasions = s.occasions := rfl
@[simp] theorem State.setHead_sources (h : Head) (hd : HeadRecord) : (s.setHead h hd).sources = s.sources := rfl
@[simp] theorem State.setHead_mgmt (h : Head) (hd : HeadRecord) : (s.setHead h hd).mgmt = s.mgmt := rfl
@[simp] theorem State.setHead_counters (h : Head) (hd : HeadRecord) : (s.setHead h hd).counters = s.counters := rfl
@[simp] theorem State.setHead_out (h : Head) (hd : HeadRecord) : (s.setHead h hd).out = s.out := rfl
@[simp] theorem State.setHead_drive (h : Head) (hd : HeadRecord) : (s.setHead h hd).drive = s.drive := rfl
@[simp] theorem State.setHead_fresh (h : Head) (hd : HeadRecord) : (s.setHead h hd).fresh = s.fresh := rfl

@[simp] theorem State.modHead_pending (h : Head) (f : HeadRecord → HeadRecord) :
    (s.modHead h f).pending = s.pending := rfl
@[simp] theorem State.modHead_arriving (h : Head) (f : HeadRecord → HeadRecord) :
    (s.modHead h f).arriving = s.arriving := rfl
@[simp] theorem State.modHead_receivers (h : Head) (f : HeadRecord → HeadRecord) :
    (s.modHead h f).receivers = s.receivers := rfl
@[simp] theorem State.modHead_pins (h : Head) (f : HeadRecord → HeadRecord) : (s.modHead h f).pins = s.pins := rfl
@[simp] theorem State.modHead_block (h : Head) (f : HeadRecord → HeadRecord) : (s.modHead h f).block = s.block := rfl
@[simp] theorem State.modHead_cells (h : Head) (f : HeadRecord → HeadRecord) : (s.modHead h f).cells = s.cells := rfl
@[simp] theorem State.modHead_grades (h : Head) (f : HeadRecord → HeadRecord) :
    (s.modHead h f).grades = s.grades := rfl
@[simp] theorem State.modHead_windows (h : Head) (f : HeadRecord → HeadRecord) :
    (s.modHead h f).windows = s.windows := rfl
@[simp] theorem State.modHead_waitList (h : Head) (f : HeadRecord → HeadRecord) :
    (s.modHead h f).waitList = s.waitList := rfl
@[simp] theorem State.modHead_occasions (h : Head) (f : HeadRecord → HeadRecord) :
    (s.modHead h f).occasions = s.occasions := rfl
@[simp] theorem State.modHead_sources (h : Head) (f : HeadRecord → HeadRecord) :
    (s.modHead h f).sources = s.sources := rfl
@[simp] theorem State.modHead_mgmt (h : Head) (f : HeadRecord → HeadRecord) : (s.modHead h f).mgmt = s.mgmt := rfl
@[simp] theorem State.modHead_counters (h : Head) (f : HeadRecord → HeadRecord) :
    (s.modHead h f).counters = s.counters := rfl
@[simp] theorem State.modHead_out (h : Head) (f : HeadRecord → HeadRecord) : (s.modHead h f).out = s.out := rfl
@[simp] theorem State.modHead_drive (h : Head) (f : HeadRecord → HeadRecord) : (s.modHead h f).drive = s.drive := rfl
@[simp] theorem State.modHead_fresh (h : Head) (f : HeadRecord → HeadRecord) : (s.modHead h f).fresh = s.fresh := rfl

@[simp] theorem State.modCells_pending (f : Cell → Cell) (refs : List CellRef) :
    (s.modCells f refs).pending = s.pending := rfl
@[simp] theorem State.modCells_arriving (f : Cell → Cell) (refs : List CellRef) :
    (s.modCells f refs).arriving = s.arriving := rfl
@[simp] theorem State.modCells_receivers (f : Cell → Cell) (refs : List CellRef) :
    (s.modCells f refs).receivers = s.receivers := rfl
@[simp] theorem State.modCells_pins (f : Cell → Cell) (refs : List CellRef) : (s.modCells f refs).pins = s.pins := rfl
@[simp] theorem State.modCells_block (f : Cell → Cell) (refs : List CellRef) :
    (s.modCells f refs).block = s.block := rfl
@[simp] theorem State.modCells_grades (f : Cell → Cell) (refs : List CellRef) :
    (s.modCells f refs).grades = s.grades := rfl
@[simp] theorem State.modCells_windows (f : Cell → Cell) (refs : List CellRef) :
    (s.modCells f refs).windows = s.windows := rfl
@[simp] theorem State.modCells_heads (f : Cell → Cell) (refs : List CellRef) :
    (s.modCells f refs).heads = s.heads := rfl
@[simp] theorem State.modCells_waitList (f : Cell → Cell) (refs : List CellRef) :
    (s.modCells f refs).waitList = s.waitList := rfl
@[simp] theorem State.modCells_occasions (f : Cell → Cell) (refs : List CellRef) :
    (s.modCells f refs).occasions = s.occasions := rfl
@[simp] theorem State.modCells_sources (f : Cell → Cell) (refs : List CellRef) :
    (s.modCells f refs).sources = s.sources := rfl
@[simp] theorem State.modCells_mgmt (f : Cell → Cell) (refs : List CellRef) : (s.modCells f refs).mgmt = s.mgmt := rfl
@[simp] theorem State.modCells_counters (f : Cell → Cell) (refs : List CellRef) :
    (s.modCells f refs).counters = s.counters := rfl
@[simp] theorem State.modCells_out (f : Cell → Cell) (refs : List CellRef) : (s.modCells f refs).out = s.out := rfl
@[simp] theorem State.modCells_drive (f : Cell → Cell) (refs : List CellRef) :
    (s.modCells f refs).drive = s.drive := rfl
@[simp] theorem State.modCells_fresh (f : Cell → Cell) (refs : List CellRef) :
    (s.modCells f refs).fresh = s.fresh := rfl

@[simp] theorem State.raiseOccasion_pending (o : Occasion) :
    (s.raiseOccasion o).pending = s.pending := by simp only [State.raiseOccasion]; split <;> rfl
@[simp] theorem State.raiseOccasion_arriving (o : Occasion) :
    (s.raiseOccasion o).arriving = s.arriving := by simp only [State.raiseOccasion]; split <;> rfl
@[simp] theorem State.raiseOccasion_receivers (o : Occasion) :
    (s.raiseOccasion o).receivers = s.receivers := by simp only [State.raiseOccasion]; split <;> rfl
@[simp] theorem State.raiseOccasion_pins (o : Occasion) :
    (s.raiseOccasion o).pins = s.pins := by simp only [State.raiseOccasion]; split <;> rfl
@[simp] theorem State.raiseOccasion_block (o : Occasion) :
    (s.raiseOccasion o).block = s.block := by simp only [State.raiseOccasion]; split <;> rfl
@[simp] theorem State.raiseOccasion_cells (o : Occasion) :
    (s.raiseOccasion o).cells = s.cells := by simp only [State.raiseOccasion]; split <;> rfl
@[simp] theorem State.raiseOccasion_grades (o : Occasion) :
    (s.raiseOccasion o).grades = s.grades := by simp only [State.raiseOccasion]; split <;> rfl
@[simp] theorem State.raiseOccasion_windows (o : Occasion) :
    (s.raiseOccasion o).windows = s.windows := by simp only [State.raiseOccasion]; split <;> rfl
@[simp] theorem State.raiseOccasion_heads (o : Occasion) :
    (s.raiseOccasion o).heads = s.heads := by simp only [State.raiseOccasion]; split <;> rfl
@[simp] theorem State.raiseOccasion_waitList (o : Occasion) :
    (s.raiseOccasion o).waitList = s.waitList := by simp only [State.raiseOccasion]; split <;> rfl
@[simp] theorem State.raiseOccasion_sources (o : Occasion) :
    (s.raiseOccasion o).sources = s.sources := by simp only [State.raiseOccasion]; split <;> rfl
@[simp] theorem State.raiseOccasion_mgmt (o : Occasion) :
    (s.raiseOccasion o).mgmt = s.mgmt := by simp only [State.raiseOccasion]; split <;> rfl
@[simp] theorem State.raiseOccasion_counters (o : Occasion) :
    (s.raiseOccasion o).counters = s.counters := by simp only [State.raiseOccasion]; split <;> rfl
@[simp] theorem State.raiseOccasion_out (o : Occasion) :
    (s.raiseOccasion o).out = s.out := by simp only [State.raiseOccasion]; split <;> rfl
@[simp] theorem State.raiseOccasion_drive (o : Occasion) :
    (s.raiseOccasion o).drive = s.drive := by simp only [State.raiseOccasion]; split <;> rfl
@[simp] theorem State.raiseOccasion_fresh (o : Occasion) :
    (s.raiseOccasion o).fresh = s.fresh := by simp only [State.raiseOccasion]; split <;> rfl

@[simp] theorem State.dropWait_pending (h : Head) : (s.dropWait h).pending = s.pending := rfl
@[simp] theorem State.dropWait_arriving (h : Head) : (s.dropWait h).arriving = s.arriving := rfl
@[simp] theorem State.dropWait_receivers (h : Head) : (s.dropWait h).receivers = s.receivers := rfl
@[simp] theorem State.dropWait_pins (h : Head) : (s.dropWait h).pins = s.pins := rfl
@[simp] theorem State.dropWait_block (h : Head) : (s.dropWait h).block = s.block := rfl
@[simp] theorem State.dropWait_cells (h : Head) : (s.dropWait h).cells = s.cells := rfl
@[simp] theorem State.dropWait_grades (h : Head) : (s.dropWait h).grades = s.grades := rfl
@[simp] theorem State.dropWait_windows (h : Head) : (s.dropWait h).windows = s.windows := rfl
@[simp] theorem State.dropWait_heads (h : Head) : (s.dropWait h).heads = s.heads := rfl
@[simp] theorem State.dropWait_occasions (h : Head) : (s.dropWait h).occasions = s.occasions := rfl
@[simp] theorem State.dropWait_sources (h : Head) : (s.dropWait h).sources = s.sources := rfl
@[simp] theorem State.dropWait_mgmt (h : Head) : (s.dropWait h).mgmt = s.mgmt := rfl
@[simp] theorem State.dropWait_counters (h : Head) : (s.dropWait h).counters = s.counters := rfl
@[simp] theorem State.dropWait_out (h : Head) : (s.dropWait h).out = s.out := rfl
@[simp] theorem State.dropWait_drive (h : Head) : (s.dropWait h).drive = s.drive := rfl
@[simp] theorem State.dropWait_fresh (h : Head) : (s.dropWait h).fresh = s.fresh := rfl

@[simp] theorem State.leaveWait_pending (h : Head) :
    (s.leaveWait h).pending = s.pending := by simp only [State.leaveWait]; split <;> simp
@[simp] theorem State.leaveWait_arriving (h : Head) :
    (s.leaveWait h).arriving = s.arriving := by simp only [State.leaveWait]; split <;> simp
@[simp] theorem State.leaveWait_receivers (h : Head) :
    (s.leaveWait h).receivers = s.receivers := by simp only [State.leaveWait]; split <;> simp
@[simp] theorem State.leaveWait_pins (h : Head) :
    (s.leaveWait h).pins = s.pins := by simp only [State.leaveWait]; split <;> simp
@[simp] theorem State.leaveWait_block (h : Head) :
    (s.leaveWait h).block = s.block := by simp only [State.leaveWait]; split <;> simp
@[simp] theorem State.leaveWait_cells (h : Head) :
    (s.leaveWait h).cells = s.cells := by simp only [State.leaveWait]; split <;> simp
@[simp] theorem State.leaveWait_grades (h : Head) :
    (s.leaveWait h).grades = s.grades := by simp only [State.leaveWait]; split <;> simp
@[simp] theorem State.leaveWait_windows (h : Head) :
    (s.leaveWait h).windows = s.windows := by simp only [State.leaveWait]; split <;> simp
@[simp] theorem State.leaveWait_heads (h : Head) :
    (s.leaveWait h).heads = s.heads := by simp only [State.leaveWait]; split <;> simp
@[simp] theorem State.leaveWait_sources (h : Head) :
    (s.leaveWait h).sources = s.sources := by simp only [State.leaveWait]; split <;> simp
@[simp] theorem State.leaveWait_mgmt (h : Head) :
    (s.leaveWait h).mgmt = s.mgmt := by simp only [State.leaveWait]; split <;> simp
@[simp] theorem State.leaveWait_counters (h : Head) :
    (s.leaveWait h).counters = s.counters := by simp only [State.leaveWait]; split <;> simp
@[simp] theorem State.leaveWait_out (h : Head) :
    (s.leaveWait h).out = s.out := by simp only [State.leaveWait]; split <;> simp
@[simp] theorem State.leaveWait_drive (h : Head) :
    (s.leaveWait h).drive = s.drive := by simp only [State.leaveWait]; split <;> simp
@[simp] theorem State.leaveWait_fresh (h : Head) :
    (s.leaveWait h).fresh = s.fresh := by simp only [State.leaveWait]; split <;> simp

@[simp] theorem State.recordWait_pending (h : Head) (fp : List CellRef) :
    (s.recordWait h fp).pending = s.pending := by simp only [State.recordWait]; split <;> rfl
@[simp] theorem State.recordWait_arriving (h : Head) (fp : List CellRef) :
    (s.recordWait h fp).arriving = s.arriving := by simp only [State.recordWait]; split <;> rfl
@[simp] theorem State.recordWait_receivers (h : Head) (fp : List CellRef) :
    (s.recordWait h fp).receivers = s.receivers := by simp only [State.recordWait]; split <;> rfl
@[simp] theorem State.recordWait_pins (h : Head) (fp : List CellRef) :
    (s.recordWait h fp).pins = s.pins := by simp only [State.recordWait]; split <;> rfl
@[simp] theorem State.recordWait_block (h : Head) (fp : List CellRef) :
    (s.recordWait h fp).block = s.block := by simp only [State.recordWait]; split <;> rfl
@[simp] theorem State.recordWait_cells (h : Head) (fp : List CellRef) :
    (s.recordWait h fp).cells = s.cells := by simp only [State.recordWait]; split <;> rfl
@[simp] theorem State.recordWait_grades (h : Head) (fp : List CellRef) :
    (s.recordWait h fp).grades = s.grades := by simp only [State.recordWait]; split <;> rfl
@[simp] theorem State.recordWait_windows (h : Head) (fp : List CellRef) :
    (s.recordWait h fp).windows = s.windows := by simp only [State.recordWait]; split <;> rfl
@[simp] theorem State.recordWait_heads (h : Head) (fp : List CellRef) :
    (s.recordWait h fp).heads = s.heads := by simp only [State.recordWait]; split <;> rfl
@[simp] theorem State.recordWait_occasions (h : Head) (fp : List CellRef) :
    (s.recordWait h fp).occasions = s.occasions := by simp only [State.recordWait]; split <;> rfl
@[simp] theorem State.recordWait_sources (h : Head) (fp : List CellRef) :
    (s.recordWait h fp).sources = s.sources := by simp only [State.recordWait]; split <;> rfl
@[simp] theorem State.recordWait_mgmt (h : Head) (fp : List CellRef) :
    (s.recordWait h fp).mgmt = s.mgmt := by simp only [State.recordWait]; split <;> rfl
@[simp] theorem State.recordWait_counters (h : Head) (fp : List CellRef) :
    (s.recordWait h fp).counters = s.counters := by simp only [State.recordWait]; split <;> rfl
@[simp] theorem State.recordWait_out (h : Head) (fp : List CellRef) :
    (s.recordWait h fp).out = s.out := by simp only [State.recordWait]; split <;> rfl
@[simp] theorem State.recordWait_drive (h : Head) (fp : List CellRef) :
    (s.recordWait h fp).drive = s.drive := by simp only [State.recordWait]; split <;> rfl
@[simp] theorem State.recordWait_fresh (h : Head) (fp : List CellRef) :
    (s.recordWait h fp).fresh = s.fresh := by simp only [State.recordWait]; split <;> rfl

@[simp] theorem State.flush_pending (h : Head) : (s.flush h).pending = s.pending := by simp [State.flush]
@[simp] theorem State.flush_arriving (h : Head) : (s.flush h).arriving = s.arriving := by simp [State.flush]
@[simp] theorem State.flush_receivers (h : Head) : (s.flush h).receivers = s.receivers := by simp [State.flush]
@[simp] theorem State.flush_pins (h : Head) : (s.flush h).pins = s.pins := by simp [State.flush]
@[simp] theorem State.flush_block (h : Head) : (s.flush h).block = s.block := by simp [State.flush]
@[simp] theorem State.flush_cells (h : Head) : (s.flush h).cells = s.cells := by simp [State.flush]
@[simp] theorem State.flush_grades (h : Head) : (s.flush h).grades = s.grades := by simp [State.flush]
@[simp] theorem State.flush_windows (h : Head) : (s.flush h).windows = s.windows := by simp [State.flush]
@[simp] theorem State.flush_sources (h : Head) : (s.flush h).sources = s.sources := by simp [State.flush]
@[simp] theorem State.flush_mgmt (h : Head) : (s.flush h).mgmt = s.mgmt := by simp [State.flush]
@[simp] theorem State.flush_counters (h : Head) : (s.flush h).counters = s.counters := by simp [State.flush]
@[simp] theorem State.flush_out (h : Head) : (s.flush h).out = s.out := by simp [State.flush]
@[simp] theorem State.flush_drive (h : Head) : (s.flush h).drive = s.drive := by simp [State.flush]
@[simp] theorem State.flush_fresh (h : Head) : (s.flush h).fresh = s.fresh := by simp [State.flush]

@[simp] theorem State.queueDrive_pending (f : DriveFrame) : (s.queueDrive f).pending = s.pending := rfl
@[simp] theorem State.queueDrive_arriving (f : DriveFrame) : (s.queueDrive f).arriving = s.arriving := rfl
@[simp] theorem State.queueDrive_receivers (f : DriveFrame) : (s.queueDrive f).receivers = s.receivers := rfl
@[simp] theorem State.queueDrive_pins (f : DriveFrame) : (s.queueDrive f).pins = s.pins := rfl
@[simp] theorem State.queueDrive_block (f : DriveFrame) : (s.queueDrive f).block = s.block := rfl
@[simp] theorem State.queueDrive_cells (f : DriveFrame) : (s.queueDrive f).cells = s.cells := rfl
@[simp] theorem State.queueDrive_grades (f : DriveFrame) : (s.queueDrive f).grades = s.grades := rfl
@[simp] theorem State.queueDrive_windows (f : DriveFrame) : (s.queueDrive f).windows = s.windows := rfl
@[simp] theorem State.queueDrive_heads (f : DriveFrame) : (s.queueDrive f).heads = s.heads := rfl
@[simp] theorem State.queueDrive_waitList (f : DriveFrame) : (s.queueDrive f).waitList = s.waitList := rfl
@[simp] theorem State.queueDrive_occasions (f : DriveFrame) : (s.queueDrive f).occasions = s.occasions := rfl
@[simp] theorem State.queueDrive_sources (f : DriveFrame) : (s.queueDrive f).sources = s.sources := rfl
@[simp] theorem State.queueDrive_mgmt (f : DriveFrame) : (s.queueDrive f).mgmt = s.mgmt := rfl
@[simp] theorem State.queueDrive_counters (f : DriveFrame) : (s.queueDrive f).counters = s.counters := rfl
@[simp] theorem State.queueDrive_out (f : DriveFrame) : (s.queueDrive f).out = s.out := rfl
@[simp] theorem State.queueDrive_fresh (f : DriveFrame) : (s.queueDrive f).fresh = s.fresh := rfl

@[simp] theorem State.withdrawIssue_pending (h : Head) (issue : Byte) :
    (s.withdrawIssue h issue).pending = s.pending := rfl
@[simp] theorem State.withdrawIssue_arriving (h : Head) (issue : Byte) :
    (s.withdrawIssue h issue).arriving = s.arriving := rfl
@[simp] theorem State.withdrawIssue_receivers (h : Head) (issue : Byte) :
    (s.withdrawIssue h issue).receivers = s.receivers := rfl
@[simp] theorem State.withdrawIssue_pins (h : Head) (issue : Byte) : (s.withdrawIssue h issue).pins = s.pins := rfl
@[simp] theorem State.withdrawIssue_block (h : Head) (issue : Byte) : (s.withdrawIssue h issue).block = s.block := rfl
@[simp] theorem State.withdrawIssue_cells (h : Head) (issue : Byte) : (s.withdrawIssue h issue).cells = s.cells := rfl
@[simp] theorem State.withdrawIssue_grades (h : Head) (issue : Byte) :
    (s.withdrawIssue h issue).grades = s.grades := rfl
@[simp] theorem State.withdrawIssue_windows (h : Head) (issue : Byte) :
    (s.withdrawIssue h issue).windows = s.windows := rfl
@[simp] theorem State.withdrawIssue_heads (h : Head) (issue : Byte) : (s.withdrawIssue h issue).heads = s.heads := rfl
@[simp] theorem State.withdrawIssue_waitList (h : Head) (issue : Byte) :
    (s.withdrawIssue h issue).waitList = s.waitList := rfl
@[simp] theorem State.withdrawIssue_occasions (h : Head) (issue : Byte) :
    (s.withdrawIssue h issue).occasions = s.occasions := rfl
@[simp] theorem State.withdrawIssue_sources (h : Head) (issue : Byte) :
    (s.withdrawIssue h issue).sources = s.sources := rfl
@[simp] theorem State.withdrawIssue_mgmt (h : Head) (issue : Byte) : (s.withdrawIssue h issue).mgmt = s.mgmt := rfl
@[simp] theorem State.withdrawIssue_counters (h : Head) (issue : Byte) :
    (s.withdrawIssue h issue).counters = s.counters := rfl
@[simp] theorem State.withdrawIssue_out (h : Head) (issue : Byte) : (s.withdrawIssue h issue).out = s.out := rfl
@[simp] theorem State.withdrawIssue_fresh (h : Head) (issue : Byte) : (s.withdrawIssue h issue).fresh = s.fresh := rfl

@[simp] theorem State.requestHalt_pending (h : Head) : (s.requestHalt h).pending = s.pending := by
  simp only [State.requestHalt]
  repeat' split
  all_goals simp
@[simp] theorem State.requestHalt_arriving (h : Head) : (s.requestHalt h).arriving = s.arriving := by
  simp only [State.requestHalt]
  repeat' split
  all_goals simp
@[simp] theorem State.requestHalt_receivers (h : Head) : (s.requestHalt h).receivers = s.receivers := by
  simp only [State.requestHalt]
  repeat' split
  all_goals simp
@[simp] theorem State.requestHalt_pins (h : Head) : (s.requestHalt h).pins = s.pins := by
  simp only [State.requestHalt]
  repeat' split
  all_goals simp
@[simp] theorem State.requestHalt_block (h : Head) : (s.requestHalt h).block = s.block := by
  simp only [State.requestHalt]
  repeat' split
  all_goals simp
@[simp] theorem State.requestHalt_cells (h : Head) : (s.requestHalt h).cells = s.cells := by
  simp only [State.requestHalt]
  repeat' split
  all_goals simp
@[simp] theorem State.requestHalt_grades (h : Head) : (s.requestHalt h).grades = s.grades := by
  simp only [State.requestHalt]
  repeat' split
  all_goals simp
@[simp] theorem State.requestHalt_windows (h : Head) : (s.requestHalt h).windows = s.windows := by
  simp only [State.requestHalt]
  repeat' split
  all_goals simp
@[simp] theorem State.requestHalt_waitList (h : Head) : (s.requestHalt h).waitList = s.waitList := by
  simp only [State.requestHalt]
  repeat' split
  all_goals simp
@[simp] theorem State.requestHalt_occasions (h : Head) : (s.requestHalt h).occasions = s.occasions := by
  simp only [State.requestHalt]
  repeat' split
  all_goals simp
@[simp] theorem State.requestHalt_sources (h : Head) : (s.requestHalt h).sources = s.sources := by
  simp only [State.requestHalt]
  repeat' split
  all_goals simp
@[simp] theorem State.requestHalt_mgmt (h : Head) : (s.requestHalt h).mgmt = s.mgmt := by
  simp only [State.requestHalt]
  repeat' split
  all_goals simp
@[simp] theorem State.requestHalt_counters (h : Head) : (s.requestHalt h).counters = s.counters := by
  simp only [State.requestHalt]
  repeat' split
  all_goals simp
@[simp] theorem State.requestHalt_out (h : Head) : (s.requestHalt h).out = s.out := by
  simp only [State.requestHalt]
  repeat' split
  all_goals simp
@[simp] theorem State.requestHalt_fresh (h : Head) : (s.requestHalt h).fresh = s.fresh := by
  simp only [State.requestHalt]
  repeat' split
  all_goals simp

@[simp] theorem State.answer_pending (status : Status) (results : Results) :
    (s.answer status results).pending = s.pending := by simp only [State.answer]; split <;> first | rfl | (split <;> rfl)
@[simp] theorem State.answer_arriving (status : Status) (results : Results) :
    (s.answer status results).arriving = s.arriving := by simp only [State.answer]; split <;> first | rfl | (split <;> rfl)
@[simp] theorem State.answer_receivers (status : Status) (results : Results) :
    (s.answer status results).receivers = s.receivers := by simp only [State.answer]; split <;> first | rfl | (split <;> rfl)
@[simp] theorem State.answer_pins (status : Status) (results : Results) :
    (s.answer status results).pins = s.pins := by simp only [State.answer]; split <;> first | rfl | (split <;> rfl)
@[simp] theorem State.answer_block (status : Status) (results : Results) :
    (s.answer status results).block = s.block := by simp only [State.answer]; split <;> first | rfl | (split <;> rfl)
@[simp] theorem State.answer_cells (status : Status) (results : Results) :
    (s.answer status results).cells = s.cells := by simp only [State.answer]; split <;> first | rfl | (split <;> rfl)
@[simp] theorem State.answer_grades (status : Status) (results : Results) :
    (s.answer status results).grades = s.grades := by simp only [State.answer]; split <;> first | rfl | (split <;> rfl)
@[simp] theorem State.answer_windows (status : Status) (results : Results) :
    (s.answer status results).windows = s.windows := by simp only [State.answer]; split <;> first | rfl | (split <;> rfl)
@[simp] theorem State.answer_heads (status : Status) (results : Results) :
    (s.answer status results).heads = s.heads := by simp only [State.answer]; split <;> first | rfl | (split <;> rfl)
@[simp] theorem State.answer_waitList (status : Status) (results : Results) :
    (s.answer status results).waitList = s.waitList := by simp only [State.answer]; split <;> first | rfl | (split <;> rfl)
@[simp] theorem State.answer_occasions (status : Status) (results : Results) :
    (s.answer status results).occasions = s.occasions := by simp only [State.answer]; split <;> first | rfl | (split <;> rfl)
@[simp] theorem State.answer_sources (status : Status) (results : Results) :
    (s.answer status results).sources = s.sources := by simp only [State.answer]; split <;> first | rfl | (split <;> rfl)
@[simp] theorem State.answer_mgmt (status : Status) (results : Results) :
    (s.answer status results).mgmt = s.mgmt := by simp only [State.answer]; split <;> first | rfl | (split <;> rfl)
@[simp] theorem State.answer_counters (status : Status) (results : Results) :
    (s.answer status results).counters = s.counters := by simp only [State.answer]; split <;> first | rfl | (split <;> rfl)
@[simp] theorem State.answer_drive (status : Status) (results : Results) :
    (s.answer status results).drive = s.drive := by simp only [State.answer]; split <;> first | rfl | (split <;> rfl)
@[simp] theorem State.answer_fresh (status : Status) (results : Results) :
    (s.answer status results).fresh = s.fresh := by simp only [State.answer]; split <;> first | rfl | (split <;> rfl)

@[simp] theorem State.refuse_pending (status : Status) :
    (s.refuse status).pending = s.pending := State.answer_pending s status .none
@[simp] theorem State.refuse_arriving (status : Status) :
    (s.refuse status).arriving = s.arriving := State.answer_arriving s status .none
@[simp] theorem State.refuse_receivers (status : Status) :
    (s.refuse status).receivers = s.receivers := State.answer_receivers s status .none
@[simp] theorem State.refuse_pins (status : Status) :
    (s.refuse status).pins = s.pins := State.answer_pins s status .none
@[simp] theorem State.refuse_block (status : Status) :
    (s.refuse status).block = s.block := State.answer_block s status .none
@[simp] theorem State.refuse_cells (status : Status) :
    (s.refuse status).cells = s.cells := State.answer_cells s status .none
@[simp] theorem State.refuse_grades (status : Status) :
    (s.refuse status).grades = s.grades := State.answer_grades s status .none
@[simp] theorem State.refuse_windows (status : Status) :
    (s.refuse status).windows = s.windows := State.answer_windows s status .none
@[simp] theorem State.refuse_heads (status : Status) :
    (s.refuse status).heads = s.heads := State.answer_heads s status .none
@[simp] theorem State.refuse_waitList (status : Status) :
    (s.refuse status).waitList = s.waitList := State.answer_waitList s status .none
@[simp] theorem State.refuse_occasions (status : Status) :
    (s.refuse status).occasions = s.occasions := State.answer_occasions s status .none
@[simp] theorem State.refuse_sources (status : Status) :
    (s.refuse status).sources = s.sources := State.answer_sources s status .none
@[simp] theorem State.refuse_mgmt (status : Status) :
    (s.refuse status).mgmt = s.mgmt := State.answer_mgmt s status .none
@[simp] theorem State.refuse_counters (status : Status) :
    (s.refuse status).counters = s.counters := State.answer_counters s status .none
@[simp] theorem State.refuse_drive (status : Status) :
    (s.refuse status).drive = s.drive := State.answer_drive s status .none
@[simp] theorem State.refuse_fresh (status : Status) :
    (s.refuse status).fresh = s.fresh := State.answer_fresh s status .none

@[simp] theorem State.releaseClaims_pending (r : InFlight) :
    (s.releaseClaims r).pending = s.pending := by simp [State.releaseClaims]
@[simp] theorem State.releaseClaims_arriving (r : InFlight) :
    (s.releaseClaims r).arriving = s.arriving := by simp [State.releaseClaims]
@[simp] theorem State.releaseClaims_receivers (r : InFlight) :
    (s.releaseClaims r).receivers = s.receivers := by simp [State.releaseClaims]
@[simp] theorem State.releaseClaims_pins (r : InFlight) :
    (s.releaseClaims r).pins = s.pins := by simp [State.releaseClaims]
@[simp] theorem State.releaseClaims_block (r : InFlight) :
    (s.releaseClaims r).block = s.block := by simp [State.releaseClaims]
@[simp] theorem State.releaseClaims_grades (r : InFlight) :
    (s.releaseClaims r).grades = s.grades := by simp [State.releaseClaims]
@[simp] theorem State.releaseClaims_windows (r : InFlight) :
    (s.releaseClaims r).windows = s.windows := by simp [State.releaseClaims]
@[simp] theorem State.releaseClaims_heads (r : InFlight) :
    (s.releaseClaims r).heads = s.heads := by simp [State.releaseClaims]
@[simp] theorem State.releaseClaims_waitList (r : InFlight) :
    (s.releaseClaims r).waitList = s.waitList := by simp [State.releaseClaims]
@[simp] theorem State.releaseClaims_sources (r : InFlight) :
    (s.releaseClaims r).sources = s.sources := by simp [State.releaseClaims]
@[simp] theorem State.releaseClaims_mgmt (r : InFlight) :
    (s.releaseClaims r).mgmt = s.mgmt := by simp [State.releaseClaims]
@[simp] theorem State.releaseClaims_counters (r : InFlight) :
    (s.releaseClaims r).counters = s.counters := by simp [State.releaseClaims]
@[simp] theorem State.releaseClaims_out (r : InFlight) :
    (s.releaseClaims r).out = s.out := by simp [State.releaseClaims]
@[simp] theorem State.releaseClaims_drive (r : InFlight) :
    (s.releaseClaims r).drive = s.drive := by simp [State.releaseClaims]
@[simp] theorem State.releaseClaims_fresh (r : InFlight) :
    (s.releaseClaims r).fresh = s.fresh := by simp [State.releaseClaims]

@[simp] theorem State.notice_pending (r : InFlight) (outcome : StrokeOutcome) (cells : Option Nat) :
    (s.notice r outcome cells).pending = s.pending := by simp only [State.notice]; split <;> rfl
@[simp] theorem State.notice_arriving (r : InFlight) (outcome : StrokeOutcome) (cells : Option Nat) :
    (s.notice r outcome cells).arriving = s.arriving := by simp only [State.notice]; split <;> rfl
@[simp] theorem State.notice_receivers (r : InFlight) (outcome : StrokeOutcome) (cells : Option Nat) :
    (s.notice r outcome cells).receivers = s.receivers := by simp only [State.notice]; split <;> rfl
@[simp] theorem State.notice_pins (r : InFlight) (outcome : StrokeOutcome) (cells : Option Nat) :
    (s.notice r outcome cells).pins = s.pins := by simp only [State.notice]; split <;> rfl
@[simp] theorem State.notice_block (r : InFlight) (outcome : StrokeOutcome) (cells : Option Nat) :
    (s.notice r outcome cells).block = s.block := by simp only [State.notice]; split <;> rfl
@[simp] theorem State.notice_cells (r : InFlight) (outcome : StrokeOutcome) (cells : Option Nat) :
    (s.notice r outcome cells).cells = s.cells := by simp only [State.notice]; split <;> rfl
@[simp] theorem State.notice_grades (r : InFlight) (outcome : StrokeOutcome) (cells : Option Nat) :
    (s.notice r outcome cells).grades = s.grades := by simp only [State.notice]; split <;> rfl
@[simp] theorem State.notice_windows (r : InFlight) (outcome : StrokeOutcome) (cells : Option Nat) :
    (s.notice r outcome cells).windows = s.windows := by simp only [State.notice]; split <;> rfl
@[simp] theorem State.notice_heads (r : InFlight) (outcome : StrokeOutcome) (cells : Option Nat) :
    (s.notice r outcome cells).heads = s.heads := by simp only [State.notice]; split <;> rfl
@[simp] theorem State.notice_waitList (r : InFlight) (outcome : StrokeOutcome) (cells : Option Nat) :
    (s.notice r outcome cells).waitList = s.waitList := by simp only [State.notice]; split <;> rfl
@[simp] theorem State.notice_occasions (r : InFlight) (outcome : StrokeOutcome) (cells : Option Nat) :
    (s.notice r outcome cells).occasions = s.occasions := by simp only [State.notice]; split <;> rfl
@[simp] theorem State.notice_sources (r : InFlight) (outcome : StrokeOutcome) (cells : Option Nat) :
    (s.notice r outcome cells).sources = s.sources := by simp only [State.notice]; split <;> rfl
@[simp] theorem State.notice_mgmt (r : InFlight) (outcome : StrokeOutcome) (cells : Option Nat) :
    (s.notice r outcome cells).mgmt = s.mgmt := by simp only [State.notice]; split <;> rfl
@[simp] theorem State.notice_counters (r : InFlight) (outcome : StrokeOutcome) (cells : Option Nat) :
    (s.notice r outcome cells).counters = s.counters := by simp only [State.notice]; split <;> rfl
@[simp] theorem State.notice_drive (r : InFlight) (outcome : StrokeOutcome) (cells : Option Nat) :
    (s.notice r outcome cells).drive = s.drive := by simp only [State.notice]; split <;> rfl
@[simp] theorem State.notice_fresh (r : InFlight) (outcome : StrokeOutcome) (cells : Option Nat) :
    (s.notice r outcome cells).fresh = s.fresh := by simp only [State.notice]; split <;> rfl

@[simp] theorem State.payHold_pending (h : Head) (status : Status) (results : Results) :
    (s.payHold h status results).pending = s.pending := by simp only [State.payHold]; split <;> simp
@[simp] theorem State.payHold_arriving (h : Head) (status : Status) (results : Results) :
    (s.payHold h status results).arriving = s.arriving := by simp only [State.payHold]; split <;> simp
@[simp] theorem State.payHold_receivers (h : Head) (status : Status) (results : Results) :
    (s.payHold h status results).receivers = s.receivers := by simp only [State.payHold]; split <;> simp
@[simp] theorem State.payHold_pins (h : Head) (status : Status) (results : Results) :
    (s.payHold h status results).pins = s.pins := by simp only [State.payHold]; split <;> simp
@[simp] theorem State.payHold_block (h : Head) (status : Status) (results : Results) :
    (s.payHold h status results).block = s.block := by simp only [State.payHold]; split <;> simp
@[simp] theorem State.payHold_cells (h : Head) (status : Status) (results : Results) :
    (s.payHold h status results).cells = s.cells := by simp only [State.payHold]; split <;> simp
@[simp] theorem State.payHold_grades (h : Head) (status : Status) (results : Results) :
    (s.payHold h status results).grades = s.grades := by simp only [State.payHold]; split <;> simp
@[simp] theorem State.payHold_windows (h : Head) (status : Status) (results : Results) :
    (s.payHold h status results).windows = s.windows := by simp only [State.payHold]; split <;> simp
@[simp] theorem State.payHold_waitList (h : Head) (status : Status) (results : Results) :
    (s.payHold h status results).waitList = s.waitList := by simp only [State.payHold]; split <;> simp
@[simp] theorem State.payHold_occasions (h : Head) (status : Status) (results : Results) :
    (s.payHold h status results).occasions = s.occasions := by simp only [State.payHold]; split <;> simp
@[simp] theorem State.payHold_sources (h : Head) (status : Status) (results : Results) :
    (s.payHold h status results).sources = s.sources := by simp only [State.payHold]; split <;> simp
@[simp] theorem State.payHold_mgmt (h : Head) (status : Status) (results : Results) :
    (s.payHold h status results).mgmt = s.mgmt := by simp only [State.payHold]; split <;> simp
@[simp] theorem State.payHold_counters (h : Head) (status : Status) (results : Results) :
    (s.payHold h status results).counters = s.counters := by simp only [State.payHold]; split <;> simp
@[simp] theorem State.payHold_drive (h : Head) (status : Status) (results : Results) :
    (s.payHold h status results).drive = s.drive := by simp only [State.payHold]; split <;> simp
@[simp] theorem State.payHold_fresh (h : Head) (status : Status) (results : Results) :
    (s.payHold h status results).fresh = s.fresh := by simp only [State.payHold]; split <;> simp

@[simp] theorem State.enterFault_pending (h : Head) (cause : FaultCause) (issue : Option Byte) (code : Byte) :
    (s.enterFault h cause issue code).pending = s.pending := by simp [State.enterFault]
@[simp] theorem State.enterFault_arriving (h : Head) (cause : FaultCause) (issue : Option Byte) (code : Byte) :
    (s.enterFault h cause issue code).arriving = s.arriving := by simp [State.enterFault]
@[simp] theorem State.enterFault_receivers (h : Head) (cause : FaultCause) (issue : Option Byte) (code : Byte) :
    (s.enterFault h cause issue code).receivers = s.receivers := by simp [State.enterFault]
@[simp] theorem State.enterFault_pins (h : Head) (cause : FaultCause) (issue : Option Byte) (code : Byte) :
    (s.enterFault h cause issue code).pins = s.pins := by simp [State.enterFault]
@[simp] theorem State.enterFault_block (h : Head) (cause : FaultCause) (issue : Option Byte) (code : Byte) :
    (s.enterFault h cause issue code).block = s.block := by simp [State.enterFault]
@[simp] theorem State.enterFault_cells (h : Head) (cause : FaultCause) (issue : Option Byte) (code : Byte) :
    (s.enterFault h cause issue code).cells = s.cells := by simp [State.enterFault]
@[simp] theorem State.enterFault_grades (h : Head) (cause : FaultCause) (issue : Option Byte) (code : Byte) :
    (s.enterFault h cause issue code).grades = s.grades := by simp [State.enterFault]
@[simp] theorem State.enterFault_windows (h : Head) (cause : FaultCause) (issue : Option Byte) (code : Byte) :
    (s.enterFault h cause issue code).windows = s.windows := by simp [State.enterFault]
@[simp] theorem State.enterFault_sources (h : Head) (cause : FaultCause) (issue : Option Byte) (code : Byte) :
    (s.enterFault h cause issue code).sources = s.sources := by simp [State.enterFault]
@[simp] theorem State.enterFault_mgmt (h : Head) (cause : FaultCause) (issue : Option Byte) (code : Byte) :
    (s.enterFault h cause issue code).mgmt = s.mgmt := by simp [State.enterFault]
@[simp] theorem State.enterFault_counters (h : Head) (cause : FaultCause) (issue : Option Byte) (code : Byte) :
    (s.enterFault h cause issue code).counters = s.counters := by simp [State.enterFault]
@[simp] theorem State.enterFault_fresh (h : Head) (cause : FaultCause) (issue : Option Byte) (code : Byte) :
    (s.enterFault h cause issue code).fresh = s.fresh := by simp [State.enterFault]

@[simp] theorem State.furtherFault_pending (h : Head) : (s.furtherFault h).pending = s.pending := rfl
@[simp] theorem State.furtherFault_arriving (h : Head) : (s.furtherFault h).arriving = s.arriving := rfl
@[simp] theorem State.furtherFault_receivers (h : Head) : (s.furtherFault h).receivers = s.receivers := rfl
@[simp] theorem State.furtherFault_pins (h : Head) : (s.furtherFault h).pins = s.pins := rfl
@[simp] theorem State.furtherFault_block (h : Head) : (s.furtherFault h).block = s.block := rfl
@[simp] theorem State.furtherFault_cells (h : Head) : (s.furtherFault h).cells = s.cells := rfl
@[simp] theorem State.furtherFault_grades (h : Head) : (s.furtherFault h).grades = s.grades := rfl
@[simp] theorem State.furtherFault_windows (h : Head) : (s.furtherFault h).windows = s.windows := rfl
@[simp] theorem State.furtherFault_waitList (h : Head) : (s.furtherFault h).waitList = s.waitList := rfl
@[simp] theorem State.furtherFault_occasions (h : Head) : (s.furtherFault h).occasions = s.occasions := rfl
@[simp] theorem State.furtherFault_sources (h : Head) : (s.furtherFault h).sources = s.sources := rfl
@[simp] theorem State.furtherFault_mgmt (h : Head) : (s.furtherFault h).mgmt = s.mgmt := rfl
@[simp] theorem State.furtherFault_counters (h : Head) : (s.furtherFault h).counters = s.counters := rfl
@[simp] theorem State.furtherFault_out (h : Head) : (s.furtherFault h).out = s.out := rfl
@[simp] theorem State.furtherFault_drive (h : Head) : (s.furtherFault h).drive = s.drive := rfl
@[simp] theorem State.furtherFault_fresh (h : Head) : (s.furtherFault h).fresh = s.fresh := rfl

@[simp] theorem State.handFault_pending (h : Head) (cause : FaultCause) (issue : Option Byte) (code : Byte) :
    (s.handFault h cause issue code).pending = s.pending := by simp only [State.handFault]; split <;> simp
@[simp] theorem State.handFault_arriving (h : Head) (cause : FaultCause) (issue : Option Byte) (code : Byte) :
    (s.handFault h cause issue code).arriving = s.arriving := by simp only [State.handFault]; split <;> simp
@[simp] theorem State.handFault_receivers (h : Head) (cause : FaultCause) (issue : Option Byte) (code : Byte) :
    (s.handFault h cause issue code).receivers = s.receivers := by simp only [State.handFault]; split <;> simp
@[simp] theorem State.handFault_pins (h : Head) (cause : FaultCause) (issue : Option Byte) (code : Byte) :
    (s.handFault h cause issue code).pins = s.pins := by simp only [State.handFault]; split <;> simp
@[simp] theorem State.handFault_block (h : Head) (cause : FaultCause) (issue : Option Byte) (code : Byte) :
    (s.handFault h cause issue code).block = s.block := by simp only [State.handFault]; split <;> simp
@[simp] theorem State.handFault_cells (h : Head) (cause : FaultCause) (issue : Option Byte) (code : Byte) :
    (s.handFault h cause issue code).cells = s.cells := by simp only [State.handFault]; split <;> simp
@[simp] theorem State.handFault_grades (h : Head) (cause : FaultCause) (issue : Option Byte) (code : Byte) :
    (s.handFault h cause issue code).grades = s.grades := by simp only [State.handFault]; split <;> simp
@[simp] theorem State.handFault_windows (h : Head) (cause : FaultCause) (issue : Option Byte) (code : Byte) :
    (s.handFault h cause issue code).windows = s.windows := by simp only [State.handFault]; split <;> simp
@[simp] theorem State.handFault_sources (h : Head) (cause : FaultCause) (issue : Option Byte) (code : Byte) :
    (s.handFault h cause issue code).sources = s.sources := by simp only [State.handFault]; split <;> simp
@[simp] theorem State.handFault_mgmt (h : Head) (cause : FaultCause) (issue : Option Byte) (code : Byte) :
    (s.handFault h cause issue code).mgmt = s.mgmt := by simp only [State.handFault]; split <;> simp
@[simp] theorem State.handFault_counters (h : Head) (cause : FaultCause) (issue : Option Byte) (code : Byte) :
    (s.handFault h cause issue code).counters = s.counters := by simp only [State.handFault]; split <;> simp
@[simp] theorem State.handFault_fresh (h : Head) (cause : FaultCause) (issue : Option Byte) (code : Byte) :
    (s.handFault h cause issue code).fresh = s.fresh := by simp only [State.handFault]; split <;> simp

@[simp] theorem State.stale_pending (h : Head) (issue : Byte) (kind : ReportKind) :
    (s.stale h issue kind).pending = s.pending := rfl
@[simp] theorem State.stale_arriving (h : Head) (issue : Byte) (kind : ReportKind) :
    (s.stale h issue kind).arriving = s.arriving := rfl
@[simp] theorem State.stale_receivers (h : Head) (issue : Byte) (kind : ReportKind) :
    (s.stale h issue kind).receivers = s.receivers := rfl
@[simp] theorem State.stale_pins (h : Head) (issue : Byte) (kind : ReportKind) :
    (s.stale h issue kind).pins = s.pins := rfl
@[simp] theorem State.stale_block (h : Head) (issue : Byte) (kind : ReportKind) :
    (s.stale h issue kind).block = s.block := rfl
@[simp] theorem State.stale_cells (h : Head) (issue : Byte) (kind : ReportKind) :
    (s.stale h issue kind).cells = s.cells := rfl
@[simp] theorem State.stale_grades (h : Head) (issue : Byte) (kind : ReportKind) :
    (s.stale h issue kind).grades = s.grades := rfl
@[simp] theorem State.stale_windows (h : Head) (issue : Byte) (kind : ReportKind) :
    (s.stale h issue kind).windows = s.windows := rfl
@[simp] theorem State.stale_heads (h : Head) (issue : Byte) (kind : ReportKind) :
    (s.stale h issue kind).heads = s.heads := rfl
@[simp] theorem State.stale_waitList (h : Head) (issue : Byte) (kind : ReportKind) :
    (s.stale h issue kind).waitList = s.waitList := rfl
@[simp] theorem State.stale_occasions (h : Head) (issue : Byte) (kind : ReportKind) :
    (s.stale h issue kind).occasions = s.occasions := rfl
@[simp] theorem State.stale_sources (h : Head) (issue : Byte) (kind : ReportKind) :
    (s.stale h issue kind).sources = s.sources := rfl
@[simp] theorem State.stale_mgmt (h : Head) (issue : Byte) (kind : ReportKind) :
    (s.stale h issue kind).mgmt = s.mgmt := rfl
@[simp] theorem State.stale_counters (h : Head) (issue : Byte) (kind : ReportKind) :
    (s.stale h issue kind).counters = s.counters := rfl
@[simp] theorem State.stale_drive (h : Head) (issue : Byte) (kind : ReportKind) :
    (s.stale h issue kind).drive = s.drive := rfl
@[simp] theorem State.stale_fresh (h : Head) (issue : Byte) (kind : ReportKind) :
    (s.stale h issue kind).fresh = s.fresh := rfl

@[simp] theorem State.place_pending (frame : LineFrame) : (s.place frame).pending = s.pending := rfl
@[simp] theorem State.place_arriving (frame : LineFrame) : (s.place frame).arriving = s.arriving := rfl
@[simp] theorem State.place_receivers (frame : LineFrame) : (s.place frame).receivers = s.receivers := rfl
@[simp] theorem State.place_pins (frame : LineFrame) : (s.place frame).pins = s.pins := rfl
@[simp] theorem State.place_block (frame : LineFrame) : (s.place frame).block = s.block := rfl
@[simp] theorem State.place_cells (frame : LineFrame) : (s.place frame).cells = s.cells := rfl
@[simp] theorem State.place_grades (frame : LineFrame) : (s.place frame).grades = s.grades := rfl
@[simp] theorem State.place_windows (frame : LineFrame) : (s.place frame).windows = s.windows := rfl
@[simp] theorem State.place_heads (frame : LineFrame) : (s.place frame).heads = s.heads := rfl
@[simp] theorem State.place_waitList (frame : LineFrame) : (s.place frame).waitList = s.waitList := rfl
@[simp] theorem State.place_occasions (frame : LineFrame) : (s.place frame).occasions = s.occasions := rfl
@[simp] theorem State.place_sources (frame : LineFrame) : (s.place frame).sources = s.sources := rfl
@[simp] theorem State.place_mgmt (frame : LineFrame) : (s.place frame).mgmt = s.mgmt := rfl
@[simp] theorem State.place_counters (frame : LineFrame) : (s.place frame).counters = s.counters := rfl
@[simp] theorem State.place_drive (frame : LineFrame) : (s.place frame).drive = s.drive := rfl

@[simp] theorem State.placeEvent_pending (e : EventSlot) : (s.placeEvent e).pending = s.pending := rfl
@[simp] theorem State.placeEvent_arriving (e : EventSlot) : (s.placeEvent e).arriving = s.arriving := rfl
@[simp] theorem State.placeEvent_receivers (e : EventSlot) : (s.placeEvent e).receivers = s.receivers := rfl
@[simp] theorem State.placeEvent_pins (e : EventSlot) : (s.placeEvent e).pins = s.pins := rfl
@[simp] theorem State.placeEvent_block (e : EventSlot) : (s.placeEvent e).block = s.block := rfl
@[simp] theorem State.placeEvent_cells (e : EventSlot) : (s.placeEvent e).cells = s.cells := rfl
@[simp] theorem State.placeEvent_grades (e : EventSlot) : (s.placeEvent e).grades = s.grades := rfl
@[simp] theorem State.placeEvent_windows (e : EventSlot) : (s.placeEvent e).windows = s.windows := rfl
@[simp] theorem State.placeEvent_heads (e : EventSlot) : (s.placeEvent e).heads = s.heads := rfl
@[simp] theorem State.placeEvent_waitList (e : EventSlot) : (s.placeEvent e).waitList = s.waitList := rfl
@[simp] theorem State.placeEvent_occasions (e : EventSlot) : (s.placeEvent e).occasions = s.occasions := rfl
@[simp] theorem State.placeEvent_sources (e : EventSlot) : (s.placeEvent e).sources = s.sources := rfl
@[simp] theorem State.placeEvent_mgmt (e : EventSlot) : (s.placeEvent e).mgmt = s.mgmt := rfl
@[simp] theorem State.placeEvent_counters (e : EventSlot) : (s.placeEvent e).counters = s.counters := rfl
@[simp] theorem State.placeEvent_drive (e : EventSlot) : (s.placeEvent e).drive = s.drive := rfl

@[simp] theorem State.placeDone_pending (n : QueuedNotice) (rest : List QueuedNotice) :
    (s.placeDone n rest).pending = s.pending := rfl
@[simp] theorem State.placeDone_arriving (n : QueuedNotice) (rest : List QueuedNotice) :
    (s.placeDone n rest).arriving = s.arriving := rfl
@[simp] theorem State.placeDone_receivers (n : QueuedNotice) (rest : List QueuedNotice) :
    (s.placeDone n rest).receivers = s.receivers := rfl
@[simp] theorem State.placeDone_pins (n : QueuedNotice) (rest : List QueuedNotice) :
    (s.placeDone n rest).pins = s.pins := rfl
@[simp] theorem State.placeDone_block (n : QueuedNotice) (rest : List QueuedNotice) :
    (s.placeDone n rest).block = s.block := rfl
@[simp] theorem State.placeDone_cells (n : QueuedNotice) (rest : List QueuedNotice) :
    (s.placeDone n rest).cells = s.cells := rfl
@[simp] theorem State.placeDone_grades (n : QueuedNotice) (rest : List QueuedNotice) :
    (s.placeDone n rest).grades = s.grades := rfl
@[simp] theorem State.placeDone_windows (n : QueuedNotice) (rest : List QueuedNotice) :
    (s.placeDone n rest).windows = s.windows := rfl
@[simp] theorem State.placeDone_heads (n : QueuedNotice) (rest : List QueuedNotice) :
    (s.placeDone n rest).heads = s.heads := rfl
@[simp] theorem State.placeDone_waitList (n : QueuedNotice) (rest : List QueuedNotice) :
    (s.placeDone n rest).waitList = s.waitList := rfl
@[simp] theorem State.placeDone_occasions (n : QueuedNotice) (rest : List QueuedNotice) :
    (s.placeDone n rest).occasions = s.occasions := rfl
@[simp] theorem State.placeDone_sources (n : QueuedNotice) (rest : List QueuedNotice) :
    (s.placeDone n rest).sources = s.sources := rfl
@[simp] theorem State.placeDone_mgmt (n : QueuedNotice) (rest : List QueuedNotice) :
    (s.placeDone n rest).mgmt = s.mgmt := rfl
@[simp] theorem State.placeDone_counters (n : QueuedNotice) (rest : List QueuedNotice) :
    (s.placeDone n rest).counters = s.counters := rfl
@[simp] theorem State.placeDone_drive (n : QueuedNotice) (rest : List QueuedNotice) :
    (s.placeDone n rest).drive = s.drive := rfl

@[simp] theorem State.arbitrate_pending : (s.arbitrate).pending = s.pending := by
  simp only [State.arbitrate]
  repeat' split
  all_goals rfl
@[simp] theorem State.arbitrate_arriving : (s.arbitrate).arriving = s.arriving := by
  simp only [State.arbitrate]
  repeat' split
  all_goals rfl
@[simp] theorem State.arbitrate_receivers : (s.arbitrate).receivers = s.receivers := by
  simp only [State.arbitrate]
  repeat' split
  all_goals rfl
@[simp] theorem State.arbitrate_pins : (s.arbitrate).pins = s.pins := by
  simp only [State.arbitrate]
  repeat' split
  all_goals rfl
@[simp] theorem State.arbitrate_block : (s.arbitrate).block = s.block := by
  simp only [State.arbitrate]
  repeat' split
  all_goals rfl
@[simp] theorem State.arbitrate_cells : (s.arbitrate).cells = s.cells := by
  simp only [State.arbitrate]
  repeat' split
  all_goals rfl
@[simp] theorem State.arbitrate_grades : (s.arbitrate).grades = s.grades := by
  simp only [State.arbitrate]
  repeat' split
  all_goals rfl
@[simp] theorem State.arbitrate_windows : (s.arbitrate).windows = s.windows := by
  simp only [State.arbitrate]
  repeat' split
  all_goals rfl
@[simp] theorem State.arbitrate_heads : (s.arbitrate).heads = s.heads := by
  simp only [State.arbitrate]
  repeat' split
  all_goals rfl
@[simp] theorem State.arbitrate_waitList : (s.arbitrate).waitList = s.waitList := by
  simp only [State.arbitrate]
  repeat' split
  all_goals rfl
@[simp] theorem State.arbitrate_occasions : (s.arbitrate).occasions = s.occasions := by
  simp only [State.arbitrate]
  repeat' split
  all_goals rfl
@[simp] theorem State.arbitrate_sources : (s.arbitrate).sources = s.sources := by
  simp only [State.arbitrate]
  repeat' split
  all_goals rfl
@[simp] theorem State.arbitrate_mgmt : (s.arbitrate).mgmt = s.mgmt := by
  simp only [State.arbitrate]
  repeat' split
  all_goals rfl
@[simp] theorem State.arbitrate_counters : (s.arbitrate).counters = s.counters := by
  simp only [State.arbitrate]
  repeat' split
  all_goals rfl
@[simp] theorem State.arbitrate_drive : (s.arbitrate).drive = s.drive := by
  simp only [State.arbitrate]
  repeat' split
  all_goals rfl

@[simp] theorem State.startDrive_pending :
    (s.startDrive).pending = s.pending := by simp only [State.startDrive]; split <;> rfl
@[simp] theorem State.startDrive_arriving :
    (s.startDrive).arriving = s.arriving := by simp only [State.startDrive]; split <;> rfl
@[simp] theorem State.startDrive_receivers :
    (s.startDrive).receivers = s.receivers := by simp only [State.startDrive]; split <;> rfl
@[simp] theorem State.startDrive_pins : (s.startDrive).pins = s.pins := by simp only [State.startDrive]; split <;> rfl
@[simp] theorem State.startDrive_block :
    (s.startDrive).block = s.block := by simp only [State.startDrive]; split <;> rfl
@[simp] theorem State.startDrive_cells :
    (s.startDrive).cells = s.cells := by simp only [State.startDrive]; split <;> rfl
@[simp] theorem State.startDrive_grades :
    (s.startDrive).grades = s.grades := by simp only [State.startDrive]; split <;> rfl
@[simp] theorem State.startDrive_windows :
    (s.startDrive).windows = s.windows := by simp only [State.startDrive]; split <;> rfl
@[simp] theorem State.startDrive_heads :
    (s.startDrive).heads = s.heads := by simp only [State.startDrive]; split <;> rfl
@[simp] theorem State.startDrive_waitList :
    (s.startDrive).waitList = s.waitList := by simp only [State.startDrive]; split <;> rfl
@[simp] theorem State.startDrive_occasions :
    (s.startDrive).occasions = s.occasions := by simp only [State.startDrive]; split <;> rfl
@[simp] theorem State.startDrive_sources :
    (s.startDrive).sources = s.sources := by simp only [State.startDrive]; split <;> rfl
@[simp] theorem State.startDrive_mgmt : (s.startDrive).mgmt = s.mgmt := by simp only [State.startDrive]; split <;> rfl
@[simp] theorem State.startDrive_counters :
    (s.startDrive).counters = s.counters := by simp only [State.startDrive]; split <;> rfl
@[simp] theorem State.startDrive_out : (s.startDrive).out = s.out := by simp only [State.startDrive]; split <;> rfl
@[simp] theorem State.startDrive_fresh :
    (s.startDrive).fresh = s.fresh := by simp only [State.startDrive]; split <;> rfl

@[simp] theorem settle_pending : (settle s).pending = s.pending := by simp [settle]
@[simp] theorem settle_block : (settle s).block = s.block := by simp [settle]
@[simp] theorem settle_cells : (settle s).cells = s.cells := by simp [settle]
@[simp] theorem settle_grades : (settle s).grades = s.grades := by simp [settle]
@[simp] theorem settle_windows : (settle s).windows = s.windows := by simp [settle]
@[simp] theorem settle_heads : (settle s).heads = s.heads := by simp [settle]
@[simp] theorem settle_waitList : (settle s).waitList = s.waitList := by simp [settle]
@[simp] theorem settle_occasions : (settle s).occasions = s.occasions := by simp [settle]
@[simp] theorem settle_sources : (settle s).sources = s.sources := by simp [settle]
@[simp] theorem settle_mgmt : (settle s).mgmt = s.mgmt := by simp [settle]
@[simp] theorem settle_counters : (settle s).counters = s.counters := by simp [settle]

@[simp] theorem State.head_raise (cls : EventClass) (d : Details) (g : Head) : (s.raise cls d).head g = s.head g :=
  State.head_of_heads g (by simp)
@[simp] theorem State.head_dropFrame (link : Link) (error : LinkError) (g : Head) :
    (s.dropFrame link error).head g = s.head g :=
  State.head_of_heads g (by simp)
@[simp] theorem State.head_driveLineHold (g : Head) : (s.driveLineHold).head g = s.head g :=
  State.head_of_heads g (by simp)
@[simp] theorem State.head_modCells (f : Cell → Cell) (refs : List CellRef) (g : Head) :
    (s.modCells f refs).head g = s.head g :=
  State.head_of_heads g (by simp)
@[simp] theorem State.head_raiseOccasion (o : Occasion) (g : Head) : (s.raiseOccasion o).head g = s.head g :=
  State.head_of_heads g (by simp)
@[simp] theorem State.head_dropWait (x : Head) (g : Head) : (s.dropWait x).head g = s.head g :=
  State.head_of_heads g (by simp)
@[simp] theorem State.head_leaveWait (x : Head) (g : Head) : (s.leaveWait x).head g = s.head g :=
  State.head_of_heads g (by simp)
@[simp] theorem State.head_recordWait (x : Head) (fp : List CellRef) (g : Head) :
    (s.recordWait x fp).head g = s.head g :=
  State.head_of_heads g (by simp)
@[simp] theorem State.head_queueDrive (f : DriveFrame) (g : Head) : (s.queueDrive f).head g = s.head g :=
  State.head_of_heads g (by simp)
@[simp] theorem State.head_withdrawIssue (x : Head) (issue : Byte) (g : Head) :
    (s.withdrawIssue x issue).head g = s.head g :=
  State.head_of_heads g (by simp)
@[simp] theorem State.head_answer (status : Status) (results : Results) (g : Head) :
    (s.answer status results).head g = s.head g :=
  State.head_of_heads g (by simp)
@[simp] theorem State.head_refuse (status : Status) (g : Head) : (s.refuse status).head g = s.head g :=
  State.head_of_heads g (by simp)
@[simp] theorem State.head_releaseClaims (r : InFlight) (g : Head) : (s.releaseClaims r).head g = s.head g :=
  State.head_of_heads g (by simp)
@[simp] theorem State.head_notice (r : InFlight) (outcome : StrokeOutcome) (cells : Option Nat) (g : Head) :
    (s.notice r outcome cells).head g = s.head g :=
  State.head_of_heads g (by simp)
@[simp] theorem State.head_stale (x : Head) (issue : Byte) (kind : ReportKind) (g : Head) :
    (s.stale x issue kind).head g = s.head g :=
  State.head_of_heads g (by simp)
@[simp] theorem State.head_place (frame : LineFrame) (g : Head) : (s.place frame).head g = s.head g :=
  State.head_of_heads g (by simp)
@[simp] theorem State.head_placeEvent (e : EventSlot) (g : Head) : (s.placeEvent e).head g = s.head g :=
  State.head_of_heads g (by simp)
@[simp] theorem State.head_placeDone (n : QueuedNotice) (rest : List QueuedNotice) (g : Head) :
    (s.placeDone n rest).head g = s.head g :=
  State.head_of_heads g (by simp)
@[simp] theorem State.head_arbitrate (g : Head) : (s.arbitrate).head g = s.head g := State.head_of_heads g (by simp)
@[simp] theorem State.head_startDrive (g : Head) : (s.startDrive).head g = s.head g := State.head_of_heads g (by simp)
@[simp] theorem settle_head (g : Head) : (settle s).head g = s.head g := State.head_of_heads g (by simp)

end

end Sys2Proof.Machine
end

