-- ==== Sys2Proof/Laws/Settle.lean ====
section
/-! SUPPORT. What follows every step: `settle` moves frames onto the free transmitters and sets LINE HOLD, and leaves
the contents of the outbound lists, the drive frames and the input levels as they were. -/

namespace Sys2Proof.Machine

variable (s : State)

/-! ### The arbiter -/

@[simp] theorem State.arbitrate_replySlot : s.arbitrate.out.replySlot = s.out.replySlot := by
  simp only [State.arbitrate]
  repeat' split
  all_goals rfl

@[simp] theorem State.arbitrate_enables : s.arbitrate.out.enables = s.out.enables := by
  simp only [State.arbitrate]
  repeat' split
  all_goals rfl

/-- Marking a slot as being sent leaves its content. -/
theorem content_sending (cls : EventClass) (events : List EventSlot) :
    (events.map fun x => if x.cls == cls then { x with sending := true } else x).map EventSlot.content =
      events.map EventSlot.content := by
  rw [List.map_map]
  apply List.map_congr_left
  intro x _
  simp only [Function.comp]
  split <;> rfl

@[simp] theorem State.placeEvent_contents (e : EventSlot) : (s.placeEvent e).eventContents = s.eventContents :=
  content_sending e.cls s.out.events

@[simp] theorem State.arbitrate_eventContents : s.arbitrate.eventContents = s.eventContents := by
  simp only [State.arbitrate]
  repeat' split
  all_goals first | rfl | exact s.placeEvent_contents _

@[simp] theorem State.arbitrate_noticeContents : s.arbitrate.noticeContents = s.noticeContents := by
  simp only [State.arbitrate]
  repeat' split
  all_goals first | rfl | (next h => simp [State.noticeContents, State.placeDone, State.place, h])

@[simp] theorem State.arbitrate_noticeCount : s.arbitrate.out.notices.length = s.out.notices.length := by
  have h := congrArg List.length s.arbitrate_noticeContents
  simpa [State.noticeContents] using h

/-- A frame on the line transmitter stays there. -/
theorem State.arbitrate_busy (h : s.out.tx.isSome = true) : s.arbitrate = s := by
  simp [State.arbitrate, h]

/-! ### The drive transmitter -/

@[simp] theorem State.startDrive_frames : s.startDrive.driveFrames = s.driveFrames := by
  simp only [State.startDrive]
  split <;> simp_all [State.driveFrames]

/-- A frame on the drive transmitter stays there. -/
theorem State.startDrive_busy {f : DriveFrame} (h : s.drive.tx = some f) : s.startDrive = s := by
  simp only [State.startDrive]
  split <;> simp_all

/-! ### `settle` as a whole -/

/-- `settle` is LINE HOLD, the drive transmitter and the arbiter, each on its own part of the state. -/
theorem settle_eq : settle s = s.driveLineHold.startDrive.arbitrate := rfl

@[simp] theorem settle_resetLow : (settle s).pins.resetLow = s.pins.resetLow := by simp [settle, State.driveLineHold]
@[simp] theorem settle_machineStop : (settle s).pins.machineStop = s.pins.machineStop := by
  simp [settle, State.driveLineHold]
@[simp] theorem settle_lineHold : (settle s).pins.lineHold = s.lineHoldLevel := by simp [settle, State.driveLineHold]
@[simp] theorem settle_replySlot : (settle s).out.replySlot = s.out.replySlot := by simp [settle]
@[simp] theorem settle_enables : (settle s).out.enables = s.out.enables := by simp [settle]

@[simp] theorem settle_eventContents : (settle s).eventContents = s.eventContents := by
  rw [settle_eq, State.arbitrate_eventContents]
  simp [State.eventContents]

@[simp] theorem settle_noticeContents : (settle s).noticeContents = s.noticeContents := by
  rw [settle_eq, State.arbitrate_noticeContents]
  simp [State.noticeContents]

@[simp] theorem settle_drive : (settle s).drive = s.startDrive.drive := by
  simp [settle, State.startDrive, State.driveLineHold]
  split <;> rfl

@[simp] theorem settle_driveFrames : (settle s).driveFrames = s.driveFrames := by
  rw [← s.startDrive_frames]
  simp [State.driveFrames]

/-- The done slots in use are counted alike after `settle`. -/
@[simp] theorem settle_slotsInUse : (settle s).slotsInUse = s.slotsInUse := by
  simp [State.slotsInUse, settle]

/-- The level of LINE HOLD in the words of R120 and R186. -/
theorem State.lineHoldLevel_iff : s.lineHoldLevel = true ↔
    s.pins.machineStop = true ∨ (∃ h, (s.head h).state = .fault) ∨ s.pins.resetLow = true := by
  simp only [State.lineHoldLevel, Bool.or_eq_true, State.any_heads, beq_iff_eq, or_assoc]
  exact or_comm.trans or_assoc

/-- A frame on the line transmitter stays there. -/
theorem settle_line_busy {p : PlacedFrame} (h : s.out.tx = some p) : (settle s).out.tx = some p := by
  rw [settle_eq, State.arbitrate_busy]
  · simpa using h
  · simp [h]

/-- A frame on the drive transmitter stays there. -/
theorem settle_drive_busy {f : DriveFrame} (h : s.drive.tx = some f) : (settle s).drive.tx = some f := by
  rw [settle_drive, State.startDrive_busy _ h, h]

end Sys2Proof.Machine
end

