-- ==== Sys2Proof/Laws/Exec.lean ====
section
/-! SUPPORT. How a command is taken, by cases: RESET low, a running part, an occupied and an empty command slot,
operands of the wrong length. And what a halt request, a held reply, a fault entry and a replaced value come to. -/

namespace Sys2Proof.Machine

variable (s : State)

/-! ### `act` and `manage` -/

/-- A running part carries the effect out. -/
theorem act_runs {f : State → State} (h : s.Runs) : act f s = .next (settle (f s)) := by
  simp [act, show s.pins.resetLow = false from h]

/-- While RESET is low nothing is taken. -/
theorem act_low {f : State → State} (h : s.pins.resetLow = true) : act f s = .next s := by
  simp [act, h]

section
variable {α : Type} (c : Instr) (hdr : Header) (f : α → State → State)

/-- A command into an empty slot with operands of the right length is carried out by its unit. -/
theorem manage_given (a : α) (h : s.Listens) :
    manage c hdr (.given a) f s = .next (settle (f a (s.withMgmt { s.mgmt with slot := some c }))) := by
  simp [manage, act_runs s h.1, manageTo, h.2]

/-- A command into an empty slot with operands of the wrong length is refused. -/
theorem manage_wrongLength (h : s.Listens) :
    manage c hdr (.wrongLength : Operands α) f s =
      .next (settle ((s.withMgmt { s.mgmt with slot := some c }).refuse .badOperand)) := by
  simp [manage, act_runs s h.1, manageTo, h.2]

/-- A command into an occupied slot is dropped with MGMT_OVERRUN. -/
theorem manage_occupied {held : Instr} {code : Byte} (ops : Operands α) (hr : s.Runs) (hs : s.mgmt.slot = some held)
    (hc : c.code? = some code) :
    manage c hdr ops f s = .next (settle (s.raise (.ofPart .mgmtOverrun) (.mgmtOverrun code hdr.seq))) := by
  simp [manage, act_runs s hr, manageTo, hs, hc]

/-- Whatever the slot and the operands, a MANAGE command answers a next state. -/
theorem manage_next (ops : Operands α) : ∃ t, manage c hdr ops f s = .next t := by
  by_cases h : s.pins.resetLow = true
  · exact ⟨_, act_low s h⟩
  · exact ⟨_, act_runs s (Bool.not_eq_true _ |>.mp h)⟩

end

/-! ### Replies -/

/-- The REPLY of a command whose header and code are known. -/
theorem State.answer_replySlot {c : Instr} {hdr : Header} {code : Byte} (hs : s.mgmt.slot = some c)
    (hh : c.header? = some hdr) (hc : c.code? = some code) (status : Status) (results : Results) :
    (s.answer status results).out.replySlot = some ⟨hdr.seq, code, status, results⟩ := by
  simp [State.answer, hs, hh, hc]

/-- An answer changes the reply slot alone. -/
theorem State.answer_eq (status : Status) (results : Results) :
    s.answer status results = s.withOut { s.out with replySlot := s.replyWith status results } := by
  rw [State.answer, State.replyWith]
  cases s.mgmt.slot with
  | none => rfl
  | some c => simp only []; cases hh : c.header? <;> cases hc : c.code? <;> rfl

@[simp] theorem State.answer_events (status : Status) (results : Results) :
    (s.answer status results).out.events = s.out.events := by
  rw [State.answer_eq]; rfl

@[simp] theorem State.answer_notices (status : Status) (results : Results) :
    (s.answer status results).out.notices = s.out.notices := by
  rw [State.answer_eq]; rfl

@[simp] theorem State.answer_enables (status : Status) (results : Results) :
    (s.answer status results).out.enables = s.out.enables := by
  rw [State.answer_eq]; rfl

@[simp] theorem State.answer_tx (status : Status) (results : Results) :
    (s.answer status results).out.tx = s.out.tx := by
  rw [State.answer_eq]; rfl

/-! ### Occasions and waits -/

/-- An occasion joins those kept (R62). -/
theorem State.raiseOccasion_occasions (o : Occasion) :
    (s.raiseOccasion o).occasions = s.occasions ++ s.kept [o] := by
  simp only [State.raiseOccasion, State.kept]
  split <;> simp

/-- A removed wait entry and the pass that follows it (R52). -/
theorem State.leaveWait_eq (h : Head) :
    s.leaveWait h = (s.withWaitList (s.waitsWithout h)).withOccasions (s.occasions ++ s.passAfterWait h) := by
  simp only [State.leaveWait, State.passAfterWait]
  split
  · next hw =>
    simp only [State.raiseOccasion, State.dropWait, State.kept, State.waitsWithout, State.withWaitList_block]
    split
    · next hi => simp [State.withOccasions, State.withWaitList, hi]
    · next hi => simp [State.withOccasions, State.withWaitList, hi]
  · next hw =>
    have : s.waitsWithout h = s.waitList := by
      simp only [State.waits, Bool.not_eq_true, List.any_eq_false, beq_iff_eq] at hw
      simp only [State.waitsWithout, List.filter_eq_self, bne_iff_ne, ne_eq]
      exact hw
    simp [this, State.withOccasions, State.withWaitList]

/-! ### Halt requests and fault entry -/

/-- Writing the halt-outstanding flag with the value it has. -/
theorem HeadRecord.haltOutstanding_self {hd : HeadRecord} {b : Bool} (h : hd.haltOutstanding = b) :
    { hd with haltOutstanding := b } = hd := by
  subst h; rfl

/-- A halt request in the words of R89: the frames of the drive link and the halt-outstanding flag. -/
theorem State.requestHalt_spec (h : Head) :
    (s.requestHalt h).driveFrames = s.framesHalted h (s.head h) ∧
      ∀ g, (s.requestHalt h).head g = if g = h
        then { s.head g with haltOutstanding := (s.head g).haltOutstanding || !(s.head g).inFlight.isEmpty }
        else s.head g := by
  simp only [State.requestHalt, State.framesHalted]
  split
  · next hf =>
    refine ⟨by simp [hf], fun g => ?_⟩
    split
    · next e =>
      subst e
      exact (HeadRecord.haltOutstanding_self (by simp [hf])).symm
    · rfl
  · next hf =>
    have hf : (s.head h).haltOutstanding = false := Bool.not_eq_true _ ▸ hf
    have hq : (if s.drive.queue.contains (.halt h) = true then s else s.queueDrive (.halt h)).driveFrames =
        if s.drive.queue.contains (.halt h) = true then s.driveFrames else s.driveFrames ++ [.halt h] := by
      split
      · rfl
      · simp [State.driveFrames, State.queueDrive]
    have hh : ∀ g, (if s.drive.queue.contains (.halt h) = true then s else s.queueDrive (.halt h)).head g = s.head g := by
      intro g
      split <;> simp
    split
    · next he =>
      refine ⟨by simpa [hf] using hq, fun g => ?_⟩
      rw [hh g]
      split
      · next e =>
        subst e
        exact (HeadRecord.haltOutstanding_self (by simp [hf, he])).symm
      · rfl
    · next he =>
      refine ⟨by simpa [hf, State.driveFrames] using hq, fun g => ?_⟩
      rw [State.head_modHead, hh g]
      split
      · next e => subst e; simp [he]
      · rfl

/-- The record of any head after a fault entry of head h (R131). -/
theorem State.enterFault_head (h g : Head) (cause : FaultCause) (issue : Option Byte) (code : Byte) :
    (s.enterFault h cause issue code).head g =
      if g = h then (s.head g).faulted cause issue code else s.head g := by
  simp only [State.enterFault, State.head_raise, State.payHold]
  by_cases e : g = h
  · subst e
    split
    · simp [State.requestHalt_spec, HeadRecord.faulted]
    · next ho =>
      simp only [State.head_leaveWait, State.head_modHead_same, (State.requestHalt_spec _ _).2] at ho ⊢
      simp_all [HeadRecord.faulted]
  · split <;> simp [e, State.requestHalt_spec]

end Sys2Proof.Machine
end

