-- ==== Sys2Proof/Laws/Receivers.lean ====
section
/-! SUPPORT. The receivers: what a signal and the end of a frame leave as they were, field by field, what they do, and
the bounds that a receiver keeps. -/

namespace Sys2Proof.Machine

section
variable (s : State)

/-! ### The end of a frame that is not taken -/

@[simp] theorem State.endFrame_pending (link : Link) (error : LinkError) :
    (s.endFrame link error).pending = s.pending := rfl
@[simp] theorem State.endFrame_arriving (link : Link) (error : LinkError) :
    (s.endFrame link error).arriving = s.arriving := rfl
@[simp] theorem State.endFrame_pins (link : Link) (error : LinkError) :
    (s.endFrame link error).pins = s.pins := rfl
@[simp] theorem State.endFrame_block (link : Link) (error : LinkError) :
    (s.endFrame link error).block = s.block := rfl
@[simp] theorem State.endFrame_cells (link : Link) (error : LinkError) :
    (s.endFrame link error).cells = s.cells := rfl
@[simp] theorem State.endFrame_grades (link : Link) (error : LinkError) :
    (s.endFrame link error).grades = s.grades := rfl
@[simp] theorem State.endFrame_windows (link : Link) (error : LinkError) :
    (s.endFrame link error).windows = s.windows := rfl
@[simp] theorem State.endFrame_heads (link : Link) (error : LinkError) :
    (s.endFrame link error).heads = s.heads := rfl
@[simp] theorem State.endFrame_waitList (link : Link) (error : LinkError) :
    (s.endFrame link error).waitList = s.waitList := rfl
@[simp] theorem State.endFrame_occasions (link : Link) (error : LinkError) :
    (s.endFrame link error).occasions = s.occasions := rfl
@[simp] theorem State.endFrame_sources (link : Link) (error : LinkError) :
    (s.endFrame link error).sources = s.sources := rfl
@[simp] theorem State.endFrame_mgmt (link : Link) (error : LinkError) :
    (s.endFrame link error).mgmt = s.mgmt := rfl
@[simp] theorem State.endFrame_drive (link : Link) (error : LinkError) :
    (s.endFrame link error).drive = s.drive := rfl
@[simp] theorem State.endFrame_fresh (link : Link) (error : LinkError) :
    (s.endFrame link error).fresh = s.fresh := rfl

/-- The receiver of the link hunts again, the other one carries on (R165). -/
@[simp] theorem State.endFrame_receivers (link : Link) (error : LinkError) :
    (s.endFrame link error).receivers = s.receivers.put .hunting link := rfl

/-- The counters, the pending set and the rest of the outbound state are those of the dropped frame (R167). -/
theorem State.endFrame_dropFrame (link : Link) (error : LinkError) :
    (s.endFrame link error).counters = (s.dropFrame link error).counters ∧
      (s.endFrame link error).out = (s.dropFrame link error).out := ⟨rfl, rfl⟩

/-! ### A signal -/

/-- Everything a signal does to a running part (R165): its receiver moves, and the command of a frame that it ends joins
the waiting commands. -/
theorem State.hear_runs (x : Signal) (h : s.Runs) :
    s.hear x = (s.withReceivers (s.receivers.put ((s.receivers.of x.link).hear x).1 x.link)).withPending
      (s.pending ++ ((s.receivers.of x.link).hear x).2.toList) := by
  simp [State.hear, show s.pins.resetLow = false from h]

/-- While RESET is low a signal does nothing (R186). -/
theorem State.hear_low (x : Signal) (h : s.pins.resetLow = true) : s.hear x = s := by simp [State.hear, h]

@[simp] theorem State.hear_arriving (x : Signal) : (s.hear x).arriving = s.arriving := by simp only [State.hear]; split <;> rfl
@[simp] theorem State.hear_pins (x : Signal) : (s.hear x).pins = s.pins := by simp only [State.hear]; split <;> rfl
@[simp] theorem State.hear_block (x : Signal) : (s.hear x).block = s.block := by simp only [State.hear]; split <;> rfl
@[simp] theorem State.hear_cells (x : Signal) : (s.hear x).cells = s.cells := by simp only [State.hear]; split <;> rfl
@[simp] theorem State.hear_grades (x : Signal) : (s.hear x).grades = s.grades := by simp only [State.hear]; split <;> rfl
@[simp] theorem State.hear_windows (x : Signal) : (s.hear x).windows = s.windows := by simp only [State.hear]; split <;> rfl
@[simp] theorem State.hear_heads (x : Signal) : (s.hear x).heads = s.heads := by simp only [State.hear]; split <;> rfl
@[simp] theorem State.hear_waitList (x : Signal) : (s.hear x).waitList = s.waitList := by simp only [State.hear]; split <;> rfl
@[simp] theorem State.hear_occasions (x : Signal) : (s.hear x).occasions = s.occasions := by simp only [State.hear]; split <;> rfl
@[simp] theorem State.hear_sources (x : Signal) : (s.hear x).sources = s.sources := by simp only [State.hear]; split <;> rfl
@[simp] theorem State.hear_mgmt (x : Signal) : (s.hear x).mgmt = s.mgmt := by simp only [State.hear]; split <;> rfl
@[simp] theorem State.hear_counters (x : Signal) : (s.hear x).counters = s.counters := by simp only [State.hear]; split <;> rfl
@[simp] theorem State.hear_out (x : Signal) : (s.hear x).out = s.out := by simp only [State.hear]; split <;> rfl
@[simp] theorem State.hear_drive (x : Signal) : (s.hear x).drive = s.drive := by simp only [State.hear]; split <;> rfl
@[simp] theorem State.hear_fresh (x : Signal) : (s.hear x).fresh = s.fresh := by simp only [State.hear]; split <;> rfl

end

/-! ### Bounds of a receiver -/

/-- A byte keeps a receiver within a frame of the envelope (R165, R175). -/
theorem receiverInBounds_take (link : Link) (r : Receiver) (b : Byte) (h : receiverInBounds r = true) :
    receiverInBounds (r.take link b).1 = true := by
  cases r with
  | hunting => simp only [Receiver.take]; split <;> rfl
  | delimited =>
    simp only [Receiver.take]
    split
    · rfl
    · next hb => simpa [receiverInBounds] using hb
  | sizedBy n => simpa [Receiver.take, receiverInBounds] using h
  | inside n kind got =>
    simp only [receiverInBounds, Bool.and_eq_true, decide_eq_true_eq] at h
    simp only [Receiver.take]
    split
    · next hg => simp [receiverInBounds, h.1, Nat.succ_le_of_lt hg]
    · rfl

/-- A receive gap leaves a receiver hunting (R165). -/
theorem Receiver.gap_hunts (link : Link) (r : Receiver) : (r.gap link).1 = .hunting := by cases r <;> rfl

/-- A signal keeps a receiver within a frame of the envelope. -/
theorem receiverInBounds_hear (x : Signal) (r : Receiver) (h : receiverInBounds r = true) :
    receiverInBounds (r.hear x).1 = true := by
  cases x with
  | byte link b => exact receiverInBounds_take link r b h
  | gap link =>
    rw [show r.hear (.gap link) = r.gap link from rfl, Receiver.gap_hunts]
    rfl

end Sys2Proof.Machine
end

