-- ==== Sys2Proof/Tests/Slice0.lean ====
section
/-! SUPPORT. Tests of the model's author: the well-formedness checks, the worked examples of the spec, small steps of
each command, and for each statement with hypotheses a state and operands that meet them. -/

namespace Sys2Proof.Tests

open Sys2Proof Sys2Proof.Machine

/-! ### Well-formedness: one ill-formed term for each check, and its neighbour that passes -/

def layer : LayerOps := ⟨100, 1⟩

theorem test_wellFormed_loadBlock_layers :
    (Instr.loadBlock ⟨0, 0⟩ (.given ⟨4, 3, 40, List.replicate 14 layer⟩)).wellFormed = false ∧
      (Instr.loadBlock ⟨0, 0⟩ (.given ⟨4, 3, 40, List.replicate 13 layer⟩)).wellFormed = true := by decide

theorem test_wellFormed_badCommand_code :
    (Instr.badCommand ⟨0, 0⟩ 0x30).wellFormed = false ∧ (Instr.badCommand ⟨0, 0⟩ 0x04).wellFormed = true := by decide

theorem test_wellFormed_driveFault_code :
    (Instr.driveFault 0 1 0).wellFormed = false ∧ (Instr.driveFault 0 1 1).wellFormed = true := by decide

theorem test_wellFormed_length :
    (Instr.lengthAbove48 .line 48).wellFormed = false ∧ (Instr.lengthAbove48 .line 49).wellFormed = true := by decide

/-! ### Frames -/

set_option maxRecDepth 20000 in
/-- The nine ASCII digits under the CRC of R176; the value is that of catalogues of CRCs. -/
theorem test_crc_digits : crc [0x31, 0x32, 0x33, 0x34, 0x35, 0x36, 0x37, 0x38, 0x39] = 0xAEE7 := by decide

/-- A STROKE payload by the table of R177. -/
theorem test_decode_stroke :
    decodeLineFrame 0x10 [2, 0x12, 0x34, 1, 1, 0, 20, 0, 30, 0xF0, 50, 1, 0, 0, 40, 0, 60, 0x80, 100] =
      .stroke ⟨2, 0x1234, .travel, ⟨20, 30, 50⟩, ⟨256, 40, 60⟩, 100, true⟩ := by decide

/-- The LOAD_BLOCK of the laminated bun (R179). -/
theorem test_decode_loadBlock :
    decodeLineFrame 0x11 [7, 0x01, 0, 0, 120, 0, 80, 100, 2, 0, 200, 3, 0, 160, 5] =
      .loadBlock ⟨7, 0⟩ (.given ⟨120, 80, 100, [⟨200, 3⟩, ⟨160, 5⟩]⟩) := by decide

/-- The tests of the line port: the kind, the length, the head of a command marked H (R166). -/
theorem test_decode_line_checks :
    decodeLineFrame 0x12 [0, 0, 0] = .corruptFrame .line .kind ∧
      decodeLineFrame 0x11 [7, 0x30] = .corruptFrame .line .length ∧
      decodeLineFrame 0x11 [7, 0x09, 0, 4] = .corruptFrame .line .field ∧
      decodeLineFrame 0x11 [7, 0x09, 0, 3, 0] = .flushQueue ⟨7, 0⟩ .wrongLength ∧
      decodeLineFrame 0x11 [7, 0x04, 0] = .badCommand ⟨7, 0⟩ 0x04 := by decide

/-- The drive link's kinds (R184). -/
theorem test_decode_drive_frames :
    decodeDriveFrame 0xA0 [1, 1, 5, 0xFE, 0x58, 0, 4, 0, 100] = .status 1 (some 5) 600 4 100 ∧
      decodeDriveFrame 0xA1 [3, 9, 0, 1, 0, 2, 0, 3] = .complete 3 9 ⟨1, 2, 3⟩ ∧
      decodeDriveFrame 0xA2 [3, 9, 0, 7, 0, 1, 0, 2, 0, 3] = .halted 3 9 7 ⟨1, 2, 3⟩ ∧
      decodeDriveFrame 0xA3 [0, 9, 1] = .driveFault 0 9 1 ∧
      decodeDriveFrame 0xA3 [0, 9, 0] = .corruptFrame .drive .field := by decide

set_option maxRecDepth 20000 in
/-- A stream of bytes: a stray byte, a READ_STATUS frame, a length above 48 (R165). -/
theorem test_receiver :
    let covered : List Byte := [4, 0x11, 7, 0x30, 0, 1]
    Receiver.commands .line .hunting ([0x55, 0xC3] ++ covered ++ word2 (crc covered) ++ [0xC3, 49]) =
      [.readStatus ⟨7, 0⟩ (.given ⟨true⟩), .lengthAbove48 .line 49] := by decide

/-! ### Layers, paths, footprints, rating: the spec's worked figures -/

/-- The laminated bun (chapter 01). -/
def bun : BlockRecord := ⟨.loaded, 120, 80, 100, [⟨200, 3⟩, ⟨160, 5⟩], 360, false⟩

theorem test_bun_points_and_layers :
    cellOf bun ⟨5049, 799, 0⟩ = ⟨50, 7⟩ ∧ inBlock bun ⟨11999, 7999, 0⟩ = true ∧ inBlock bun ⟨12000, 0, 0⟩ = false ∧
      stackTop bun.layers = 360 ∧ layerAt 199 0 bun.layers = some ⟨200, 3⟩ ∧
      layerAt 200 0 bun.layers = some ⟨160, 5⟩ ∧ layerAt 360 0 bun.layers = none := by decide

def diagonal : Stroke := ⟨0, 0, .cut, ⟨350, 250, 300⟩, ⟨850, 450, 200⟩, 100, false⟩

theorem test_path_diagonal :
    path bun diagonal = [⟨⟨3, 2⟩, 300⟩, ⟨⟨4, 2⟩, 280⟩, ⟨⟨5, 3⟩, 260⟩, ⟨⟨6, 3⟩, 240⟩, ⟨⟨7, 4⟩, 220⟩, ⟨⟨8, 4⟩, 200⟩] := by
  decide

theorem test_path_half_step_and_reverse :
    (path bun ⟨0, 0, .cut, ⟨50, 50, 0⟩, ⟨450, 150, 0⟩, 1, false⟩).map PathCell.cell =
        [⟨0, 0⟩, ⟨1, 0⟩, ⟨2, 1⟩, ⟨3, 1⟩, ⟨4, 1⟩] ∧
      (path bun ⟨0, 0, .cut, ⟨450, 150, 0⟩, ⟨50, 50, 0⟩, 1, false⟩).map PathCell.cell =
        [⟨4, 1⟩, ⟨3, 1⟩, ⟨2, 0⟩, ⟨1, 0⟩, ⟨0, 0⟩] := by decide

theorem test_footprint_diagonal :
    (footprint bun diagonal 1).length = 28 ∧
      (footprint bun diagonal 1).take 5 = [⟨2, 1⟩, ⟨3, 1⟩, ⟨4, 1⟩, ⟨5, 1⟩, ⟨2, 2⟩] := by decide

def bunGrades : Vector GradeEntry 16 := (gradesReset.set 3 ⟨true, 300, 200, 600⟩).set 5 ⟨true, 600, 100, 500⟩

/-- The interval's grades and its dominant grade, cases 1, 2, 3, 7 and 10 of the worked figures (chapter 04). -/
theorem test_rating_grades :
    cellGrades bun 360 100 = [3, 5] ∧ cellGrades bun 150 100 = [3] ∧ cellGrades bun 100 100 = [0] ∧
      cellGrades bun 360 250 = [5] ∧ cellGrades bun 360 360 = [0] ∧ dominantGrade bunGrades [0, 5, 3] = 3 := by
  decide

theorem test_rating_caps :
    feedCap 300 40 0 = 120 ∧ feedCap 2000 40 0 = 800 ∧ feedCap 300 40 2 = 60 ∧ feedCap 300 10 3 = 7 ∧
      feedCap 3 10 3 = 0 := by decide

/-- The worked overdue limits (chapter 06). -/
def timed (finish : Point) (feed : Nat) : InFlight :=
  ⟨0, ⟨0, 0, .cut, ⟨1000, 1000, 100⟩, finish, 4095, false⟩, false, 0, 0, some 3, some ⟨200, 600⟩, feed, 40, false, false,
    none⟩

theorem test_overdue_limits :
    overdueLimit ⟨100, 8, 500⟩ (timed ⟨1600, 1000, 100⟩ 120) = 10500 ∧
      overdueLimit ⟨100, 8, 500⟩ (timed ⟨1600, 1000, 100⟩ 90) = 13834 ∧
      overdueLimit ⟨100, 5, 200⟩ (timed ⟨1000, 1600, 100⟩ 120) = 6450 ∧
      overdueLimit ⟨100, 8, 500⟩ (timed ⟨1300, 1400, 100⟩ 120) = 12168 ∧
      overdueLimit ⟨100, 8, 500⟩ (timed ⟨1000, 1000, 50⟩ 120) = 500 := by decide

/-- The cycle check at its bound: 4 cycles in 125 ms are not short, in 126 ms they are (R109). -/
theorem test_short_sample : shortSample 40 4 125 20 = false ∧ shortSample 40 4 126 20 = true := by decide

/-- The marking example (chapter 02). -/
theorem test_windows :
    TagWindow.hits 0x1003 ⟨true, 0xF000, 0x1000⟩ = true ∧ TagWindow.hits 0x2A00 ⟨true, 0xFFFF, 0x2A00⟩ = true ∧
      TagWindow.hits 0x0042 ⟨true, 0xF000, 0x1000⟩ = false ∧ TagWindow.hits 0x1004 ⟨false, 0xF000, 0x1000⟩ = false := by
  decide

/-! ### Small states -/

def hdr : Header := ⟨7, 0⟩
def here : Point := ⟨20, 20, 50⟩

/-- The state that a command answers. -/
def after (c : Instr) (s : State) : State :=
  match exec c s with
  | .next t => t
  | .fault _ | .refused _ => s

def small : BlockRecord := ⟨.loaded, 4, 3, 40, [⟨100, 1⟩], 100, false⟩

def readyHead : HeadRecord :=
  { HeadRecord.reset with
    state := .ready, chainEnd := ⟨here, true⟩, reported := ⟨here, true⟩
    settings := { HeadRecord.reset.settings with guard := 0 } }

/-- A block of 4 by 3 cells and four READY heads in its first cell. -/
def loaded : State :=
  ((State.reset.withBlock small).withGrades (gradesReset.set 1 ⟨true, 500, 100, 600⟩)).withHeads
    (Vector.replicate 4 readyHead)

/-- A CUT of two cells, rated 100. -/
def cut1 : Stroke := ⟨0, 0x1234, .cut, here, ⟨60, 20, 50⟩, 100, true⟩

def queued : State := after (.stroke cut1) loaded

/-- One stroke of head 0 in flight, issue number 0. -/
def flying : State := after (.evaluation 0) queued

def flyingRecord : InFlight :=
  ⟨0, cut1, true, 1, 0, some 1, some ⟨100, 600⟩, 100, 40, true, false, some 1300⟩

/-- Head 0 of a state, changed. -/
def withHead0 (f : HeadRecord → HeadRecord) (s : State) : State := s.modHead 0 f

def heldState : State := withHead0 (fun hd => { hd with state := .held, holdCause := some .soft }) loaded
def faultState : State := after (.driveFault 0 3 9) loaded
def faultFlying : State := after (.driveFault 0 3 9) flying
def low : State := after .resetPinLow loaded
def occupied : State := after (.readStatus hdr (.given ⟨false⟩)) loaded
def stopped : State := after .machineStopAsserted loaded
def initialising : State := after (.loadBlock hdr (.given ⟨4, 3, 40, [layer]⟩)) loaded
def unloading : State := after (.unloadBlock hdr (.given .mk)) loaded

/-! ### Small steps: one or two for each command -/

theorem test_stroke :
    (queued.head 0).queue = [⟨cut1, true⟩] ∧ queued.occasions = [.one 0] := by decide

theorem test_stroke_overflow :
    (after (.stroke cut1) (withHead0 (fun hd => { hd with queue := List.replicate 32 ⟨cut1, false⟩ }) loaded)).out.tx =
      some ⟨.event (.ofHead .queueOverflow 0) ⟨.queueOverflow 0x1234, 1⟩ 0, 0⟩ := by decide

theorem test_loadBlock :
    initialising.block = ⟨.initialising, 4, 3, 40, [⟨100, 1⟩], 100, false⟩ ∧ initialising.out.replySlot = none := by
  decide

theorem test_initialisationVisitEnd :
    (after .initialisationVisitEnd initialising).out.replySlot = some ⟨7, 0x01, .ok, .loadBlock 100 0⟩ := by
  decide

theorem test_unloadBlock : unloading.block.unloadVisit = true ∧ unloading.out.replySlot = none := by decide

theorem test_unloadVisitEnd :
    (after .unloadVisitEnd unloading).block = .reset ∧
      (after .unloadVisitEnd unloading).out.replySlot = some ⟨7, 0x02, .ok, .unloadBlock 0 0⟩ := by decide

theorem test_writeGrade :
    (after (.writeGrade hdr (.given ⟨5, false, 600, 100, 500⟩)) loaded).grades[5] = ⟨true, 600, 100, 500⟩ := by
  decide

theorem test_setNotifyWindow :
    (after (.setNotifyWindow hdr (.given ⟨3, true, 0xF000, 0x1000⟩)) loaded).windows[3] = ⟨true, 0xF000, 0x1000⟩ := by
  decide

theorem test_flushQueue :
    ((after (.flushQueue hdr (.given ⟨0⟩)) queued).head 0).queue = [] := by decide

theorem test_setHead :
    ((after (.setHead hdr (.given ⟨1, true, 0xFFFF, 1, 50, 900, 30, 2⟩)) .reset).head 1).state = .ready := by
  decide

theorem test_setPosition :
    ((after (.setPosition hdr (.given ⟨2, ⟨7, 8, 9⟩⟩)) loaded).head 2).chainEnd = ⟨⟨7, 8, 9⟩, true⟩ := by decide

theorem test_holdHead :
    ((after (.holdHead hdr (.given ⟨0, true⟩)) flying).head 0).haltOutstanding = true ∧
      (after (.holdHead hdr (.given ⟨0, true⟩)) flying).drive.queue = [.halt 0] := by decide

theorem test_releaseHead :
    ((after (.releaseHead hdr (.given ⟨0⟩)) heldState).head 0).state = .ready := by decide

theorem test_clearHead :
    ((after (.clearHead hdr (.given ⟨0, here⟩)) faultFlying).head 0).inFlight = [] ∧
      ((after (.clearHead hdr (.given ⟨0, here⟩)) faultFlying).cell ⟨1, 0⟩) = ⟨50, 0, 0, none, 0, true⟩ := by
  decide

theorem test_setMonitor :
    ((after (.setMonitor hdr (.given ⟨1, 5, 6, 7, 8, 9⟩)) loaded).head 1).monitorSettings = ⟨5, 6, 7, 8, 9⟩ := by
  decide

theorem test_setTimers :
    ((after (.setTimers hdr (.given ⟨1, 1000, 4, 50⟩)) loaded).head 1).timerSettings = ⟨1000, 4, 50⟩ := by decide

theorem test_setPreset :
    ((after (.setPreset ⟨7, 1⟩ (.given ⟨6, 120⟩)) loaded).sources.get 1) = ⟨6, 120, 0⟩ := by decide

theorem test_setSource :
    ((after (.setSource hdr (.given ⟨1, 0x10⟩)) loaded).sources.get 1) = ⟨0, 0, 0x10⟩ := by decide

/-- A span over the map's edge: two cells written, one kept, two outside (chapter 08). -/
theorem test_spanWrite :
    (after (.spanWrite ⟨7, 1⟩ (.given ⟨2, 1, 5, 0, 2⟩)) (after .replySent
      (after (.setPreset ⟨6, 1⟩ (.given ⟨6, 120⟩)) loaded))).out.replySlot =
        some ⟨7, 0x22, .ok, .spanWrite 2 0 2⟩ := by decide

theorem test_spanQuery :
    (after (.spanQuery hdr (.given ⟨0, 0, 5, 100⟩)) loaded).out.replySlot =
      some ⟨7, 0x23, .ok, .spanQuery 0xF 0⟩ := by decide

theorem test_readCell :
    (after (.readCell hdr (.given ⟨1, 0⟩)) flying).out.replySlot =
      some ⟨7, 0x24, .ok, .readCell ⟨100, 0, 0, some 0, 1, false⟩⟩ := by decide

theorem test_setEvents : (after (.setEvents hdr (.given ⟨0x00FF00⟩)) loaded).out.enables = 0x00FF00 := by decide

theorem test_readStatus :
    (after (.readStatus hdr (.given ⟨true⟩)) (after (.receiveGap .line) loaded)).counters = ⟨0, 0, 0, 0⟩ := by
  decide

theorem test_setJobTag : (after (.setJobTag hdr (.given ⟨0xBEEF⟩)) loaded).mgmt.jobTag = 0xBEEF := by decide

theorem test_resetPart :
    (after (.resetPart hdr (.given .mk)) loaded).block = .reset ∧
      (after (.resetPart hdr (.given .mk)) loaded).out.replySlot = some ⟨7, 0x3F, .ok, .none⟩ := by decide

theorem test_badCommand :
    (after (.badCommand hdr 0x77) loaded).out.replySlot = some ⟨7, 0x77, .badCommand, .none⟩ := by decide

theorem test_evaluation :
    (flying.head 0).inFlight = [flyingRecord] ∧ flying.drive.tx = some (.issue 0 0 .cut here ⟨60, 20, 50⟩ 100 40 1) := by
  decide

theorem test_pass :
    ((after .pass (queued.withOccasions [.pass none])).head 0).inFlight = [flyingRecord] := by decide

theorem test_driveFrameSent : (after .driveFrameSent flying).drive.tx = none := by decide

theorem test_status :
    ((after (.status 0 (some 0) 700 0 0) flying).head 0).monitor = ⟨1, 0, 0, 0, 0⟩ := by decide +kernel

theorem test_complete :
    ((after (.complete 0 0 here) flying).head 0).state = .ready ∧
      (after (.complete 0 0 here) flying).cell ⟨1, 0⟩ = ⟨50, 0, 0, none, 0, false⟩ := by decide

theorem test_halted :
    ((after (.halted 0 0 1 ⟨45, 20, 50⟩) flying).head 0).chainEnd = ⟨⟨45, 20, 50⟩, true⟩ ∧
      (after (.halted 0 0 1 ⟨45, 20, 50⟩) flying).cell ⟨1, 0⟩ = ⟨100, 0, 0, none, 0, false⟩ := by decide

theorem test_driveFault : (faultFlying.head 0).latch = ⟨some .driveFault, some 3, 9⟩ := by decide

theorem test_statusGapExpiry :
    ((after (.statusGapExpiry 0) flying).head 0).latch = ⟨some .driveSilent, some 0, 0⟩ := by decide

theorem test_overdueExpiry :
    ((after (.overdueExpiry 0) flying).head 0).latch = ⟨some .overdue, some 0, 0⟩ := by decide

theorem test_machineStopAsserted : (stopped.head 3).latch = ⟨some .machineStop, none, 0⟩ ∧ stopped.pins.lineHold = true := by
  decide

theorem test_machineStopDeasserted : (after .machineStopDeasserted stopped).pins.machineStop = false := by decide

theorem test_corruptFrame : (after (.corruptFrame .drive .crc) loaded).counters = ⟨0, 0, 1, 0⟩ := by decide

theorem test_lengthAbove48 : (after (.lengthAbove48 .line 49) loaded).counters = ⟨0, 1, 0, 0⟩ := by decide

theorem test_receiveGap : (after (.receiveGap .drive) loaded).counters = ⟨0, 0, 0, 1⟩ := by decide

theorem test_replySent :
    (after .replySent occupied).mgmt.slot.isSome = true ∧
      (after .replySent (after .replySent occupied)).mgmt.slot = none := by decide

theorem test_doneSent : (after .doneSent (after (.complete 0 0 here) flying)).out.notices = [] := by decide

theorem test_eventSent : (after .eventSent stopped).out.tx =
    some ⟨.event (.ofHead .headFault 1) ⟨.headFault .machineStop none 0, 1⟩ 0, 1⟩ := by decide

/-- The line receiver inside a frame, the drive receiver past a delimiter. -/
def receiving : State := loaded.withReceivers ⟨.inside 3 0x11 [7], .delimited⟩

/-- A byte reaches its receiver; RESET low abandons both frames and ignores what comes; RESET_PART and a STROKE let the
receivers carry on; a receive gap ends the frame of its link alone. -/
theorem test_receivers :
    (loaded.hear (.byte .drive 0xC3)).receivers = ⟨.hunting, .delimited⟩ ∧
      (receiving.hear (.gap .line)).receivers = ⟨.hunting, .delimited⟩ ∧
      (receiving.hear (.gap .line)).pending = [.receiveGap .line] ∧
      (after .resetPinLow receiving).receivers = .hunting ∧
      ((after .resetPinLow receiving).hear (.byte .line 0xC3)).receivers = .hunting ∧
      (after .powerOnReset receiving).receivers = .hunting ∧
      (after (.resetPart hdr (.given .mk)) receiving).receivers = receiving.receivers ∧
      (after (.receiveGap .line) receiving).receivers = ⟨.hunting, .delimited⟩ := by
  and_intros <;> decide

theorem test_resetPinLow : low.pins = ⟨true, false, true⟩ := by decide

theorem test_powerOnReset : after .powerOnReset low = .reset := by decide

/-! ### A state and operands for the hypotheses of each statement, clause by clause -/

theorem test_witness_StepTakesFrontCommand :
    (State.reset.pending = [] ∧ State.reset.arriving = []) ∧
      (State.reset.withArriving [.byte .line 0xC3]).pending = [] ∧
      (State.reset.withArriving [.byte .line 0xC3]).arriving = [.byte .line 0xC3] := by decide

theorem test_witness_ResetLowStopsThePart :
    low.pins.resetLow = true ∧ Instr.pass ≠ .resetPinLow ∧ Instr.pass ≠ .powerOnReset ∧
      Instr.pass ≠ .machineStopAsserted ∧ Instr.pass ≠ .machineStopDeasserted := by decide

theorem test_witness_ResetPartReturnsThePart :
    (flying.Listens ∧ (flying.head 0).inFlight ≠ []) ∧ loaded.Listens ∧ ∀ h, (loaded.head h).inFlight = [] := by decide

theorem test_witness_OccupiedSlotDropsCommand :
    occupied.Runs ∧ occupied.mgmt.slot = some (.readStatus hdr (.given ⟨false⟩)) ∧
      (Instr.setJobTag hdr (.given ⟨1⟩)).header? = some hdr ∧
      (Instr.setJobTag hdr (.given ⟨1⟩)).code? = some 0x31 := by decide

theorem test_witness_ManagementUnitTests :
    loaded.Listens ∧ (Instr.holdHead hdr .wrongLength).code? = some 0x12 := by decide

/-- For every statement that asks no more than that the part takes a MANAGE command, and for the clauses of
`ReadStatusReturnsTheRecord` on a HELD and a FAULT head. -/
theorem test_witness_listening :
    loaded.Listens ∧ (heldState.Listens ∧ (heldState.head 0).state = .held ∧ (heldState.head 0).holdCause = some .soft) ∧
      (faultState.Listens ∧ (faultState.head 0).state = .fault ∧ (faultState.head 0).latch.cause = some .driveFault) ∧
      ((loaded.head 0).state ≠ .held ∧ (loaded.head 0).state ≠ .fault) := by decide

/-- A queue of 31 strokes and one of 32. -/
def filled (n : Nat) : State := withHead0 (fun hd => { hd with queue := List.replicate n ⟨cut1, false⟩ }) loaded

theorem test_witness_StrokeJoinsQueueOrOverflows :
    ((filled 31).Runs ∧ ((filled 31).head 0).queue.length < 32) ∧ (filled 32).Runs ∧
      32 ≤ ((filled 32).head 0).queue.length := by decide

theorem test_witness_LoadBlockEntersInitialising :
    ¬ LoadOperandsPass ⟨257, 192, 160, [layer]⟩ ∧ ¬ LoadOperandsPass ⟨4, 3, 39, [layer]⟩ ∧
      ¬ LoadOperandsPass ⟨4, 3, 40, [⟨2400, 15⟩, ⟨1, 1⟩]⟩ ∧
      LoadOperandsPass ⟨256, 192, 160, [⟨2400, 15⟩]⟩ ∧ LoadOperandsPass ⟨1, 1, 40, [⟨1, 1⟩]⟩ ∧
      (flying.Listens ∧ (flying.head 0).inFlight ≠ []) ∧ loaded.Listens ∧
      ∀ h, (loaded.head h).inFlight = [] := by
  and_intros <;> decide

theorem test_witness_VisitsEndWithTheirReply :
    (initialising.Runs ∧ initialising.block.state = .initialising ∧
        initialising.mgmt.slot = some (.loadBlock hdr (.given ⟨4, 3, 40, [layer]⟩))) ∧
      unloading.Runs ∧ unloading.block.unloadVisit = true ∧
      unloading.mgmt.slot = some (.unloadBlock hdr (.given .mk)) ∧ unloading.BlockLaw ∧ unloading.MapLaw ∧
      unloading.EntriesLaw ∧ initialising.VisitLaw := by decide

theorem test_witness_UnloadBlockStartsVisit :
    (State.reset.Listens ∧ State.reset.block.state = .noBlock) ∧
      (flying.Listens ∧ flying.block.state = .loaded ∧ (flying.head 0).inFlight ≠ []) ∧ loaded.Listens ∧
      loaded.block.state = .loaded ∧ ∀ h, (loaded.head h).inFlight = [] := by decide

theorem test_witness_GradesAndWindowsWritten :
    ¬ GradeOperandsPass ⟨16, true, 0, 0, 0⟩ ∧ ¬ GradeOperandsPass ⟨0, true, 0, 0, 0⟩ ∧
      ¬ GradeOperandsPass ⟨1, false, 1, 0, 1024⟩ ∧ GradeOperandsPass ⟨15, false, 1, 1023, 1023⟩ ∧
      GradeOperandsPass ⟨0, false, 1, 0, 0⟩ ∧ GradeOperandsPass ⟨1, true, 0, 1, 0⟩ ∧
      (15 : Fin 16).val = (15 : Byte).toNat ∧ (3 : Fin 4).val = (3 : Byte).toNat ∧ 3 < (4 : Byte).toNat := by
  and_intros <;> decide

def headOps (enable : Bool) (rate : Byte) : SetHeadOps := ⟨0, enable, 0xFFFF, 7, rate, 4095, 255, 31⟩

theorem test_witness_SetHeadWritesSettings :
    ¬ HeadOperandsPass (headOps true 81) ∧ HeadOperandsPass (headOps true 80) ∧ HeadOperandsPass (headOps false 10) ∧
      ((after .machineStopAsserted .reset).Listens ∧ ((after .machineStopAsserted .reset).head 0).state = .off ∧
        (after .machineStopAsserted .reset).pins.machineStop = true) ∧
      (flying.Listens ∧ (flying.head 0).TakesFaults ∧ (flying.head 0).inFlight ≠ []) ∧
      (faultState.Listens ∧ (faultState.head 0).state = .fault) ∧
      EnablePasses (State.reset.head 0) false true ∧ EnablePasses (loaded.head 0) false false ∧
      EnablePasses (faultState.head 0) false true := by
  and_intros <;> decide

theorem test_witness_SetPositionMovesBothPoints :
    (faultState.Listens ∧ (faultState.head 0).state = .fault) ∧
      (flying.Listens ∧ (flying.head 0).state ≠ .fault ∧ (flying.head 0).inFlight ≠ []) ∧
      loaded.Listens ∧ (loaded.head 0).state ≠ .fault ∧ (loaded.head 0).inFlight = [] := by decide

theorem test_witness_HoldHeadHoldsAndHalts :
    (State.reset.Listens ∧ (State.reset.head 0).state = .off) ∧
      (faultState.Listens ∧ (faultState.head 0).state = .fault) ∧
      (flying.Listens ∧ (flying.head 0).TakesFaults) ∧ heldState.Listens ∧ (heldState.head 0).TakesFaults := by decide

theorem test_witness_ReleaseHeadLeavesHeld :
    (loaded.Listens ∧ (loaded.head 0).state ≠ .held) ∧ heldState.Listens ∧ (heldState.head 0).state = .held := by decide

theorem test_witness_ClearHeadRestoresTheHead :
    (loaded.Listens ∧ (loaded.head 0).state ≠ .fault) ∧
      (stopped.Listens ∧ (stopped.head 0).state = .fault ∧ stopped.pins.machineStop = true) ∧
      faultFlying.Listens ∧ (faultFlying.head 0).state = .fault ∧ faultFlying.pins.machineStop = false := by decide

theorem test_witness_DriveFaultFaultsTheHead :
    (1 : Byte) ≠ 0 ∧ (flying.Runs ∧ (flying.head 0).TakesFaults) ∧ (faultState.Runs ∧ (faultState.head 0).state = .fault) ∧
      State.reset.Runs ∧ (State.reset.head 0).state = .off := by decide

theorem test_witness_TimerExpiryFaultsTheHead :
    flying.Runs ∧ (flying.head 0).TakesFaults ∧ (flying.head 0).inFlight.head? = some flyingRecord ∧
      (flying.head 0).gapTimer ≠ .stopped ∧ (flying.head 0).overdueRunning = true := by decide

theorem test_witness_MachineStopFaultsEveryHead :
    (faultFlying.Runs ∧ faultFlying.pins.machineStop = false ∧ (faultFlying.head 0).state = .fault ∧
        (faultFlying.head 1).TakesFaults) ∧
      (State.reset.Runs ∧ State.reset.pins.machineStop = false ∧ (State.reset.head 0).state = .off) ∧
      stopped.Runs ∧ stopped.pins.machineStop = true := by decide

theorem test_witness_MonitorAndTimerSettingsWritten :
    ¬ MonitorOperandsPass ⟨0, 16, 1, 1, 1, 5⟩ ∧ MonitorOperandsPass ⟨0, 1, 15, 1, 15, 50⟩ ∧
      ¬ TimersOperandsPass ⟨0, 4, 4, 50⟩ ∧ TimersOperandsPass ⟨0, 5, 16, 5000⟩ := by decide

/-- A frame that names no issue number, one of a head in OFF, one that names another number. -/
theorem test_witness_UncheckedStatusRestartsTimer :
    flying.Runs ∧ (∀ r, ¬ flying.Checked 0 none r) ∧ (∀ r, ¬ State.reset.Checked 0 (some 0) r) ∧
      ∀ r, ¬ flying.Checked 0 (some 1) r := by
  refine ⟨by decide, (fun r h => nomatch h.2.2.1), fun r h => ?_, fun r h => ?_⟩
  · exact absurd h.1 (by decide)
  · have hr : flyingRecord = r := Option.some.inj (Eq.trans (by decide) h.2.1)
    have hn : (1 : Byte) = r.issue := Option.some.inj h.2.2.1
    rw [← hr] at hn
    exact absurd hn (by decide)

/-- Head 0 in flight with a monitor state at a bound. -/
def monitored (m : Monitor) : State := withHead0 (fun hd => { hd with monitor := m }) flying

theorem test_witness_DragCheckMovesRunsAndLadder :
    flying.Runs ∧ flying.Checked 0 (some flyingRecord.issue) flyingRecord ∧ flyingRecord.window = some ⟨100, 600⟩ ∧
      flyingRecord.dominant = some 1 ∧ ¬ flying.ShortOf 0 flyingRecord 0 0 ∧
      1 ≤ (flying.head 0).monitorSettings.stallDebounce ∧
      (600 < 601 ∧ (flying.head 0).monitor.highRun + 1 < (flying.head 0).monitorSettings.highDebounce) ∧
      ((monitored ⟨2, 0, 0, 0, 2⟩).Checked 0 (some flyingRecord.issue) flyingRecord ∧
        ((monitored ⟨2, 0, 0, 0, 2⟩).head 0).monitorSettings.highDebounce ≤ 2 + 1) ∧
      ((monitored ⟨2, 0, 0, 0, 3⟩).Checked 0 (some flyingRecord.issue) flyingRecord ∧
        ((monitored ⟨2, 0, 0, 0, 3⟩).head 0).monitor.derate = 3) ∧
      (99 < 100 ∧ (flying.head 0).monitor.lowRun + 1 < (flying.head 0).monitorSettings.lowDebounce) ∧
      ((monitored ⟨0, 3, 0, 0, 0⟩).Checked 0 (some flyingRecord.issue) flyingRecord ∧
        ((monitored ⟨0, 3, 0, 0, 0⟩).head 0).monitorSettings.lowDebounce ≤ 3 + 1) := by decide

def asOpen (r : InFlight) : InFlight := { r with dominant := some 0 }

/-- A sample within the window, at each bound, and a low one of a record whose dominant grade is 0. -/
theorem test_witness_DragCheckMovesRunsAndLadder_within :
    (flyingRecord.window = some ⟨100, 600⟩ ∧ (600 : BitVec 10).toNat ≤ 600 ∧ 100 ≤ (600 : BitVec 10).toNat ∧
        100 ≤ (100 : BitVec 10).toNat) ∧
      (withHead0 (fun hd => { hd with inFlight := [asOpen flyingRecord] }) flying).Checked 0
        (some (asOpen flyingRecord).issue) (asOpen flyingRecord) ∧
      (asOpen flyingRecord).dominant = some 0 ∧ (99 : BitVec 10).toNat ≤ 600 := by decide

theorem test_witness_StallRunFaultsBladeStall :
    (flying.head 0).TakesFaults ∧ (flying.head 0).inFlight.head? = some flyingRecord ∧
      (monitored ⟨0, 0, 1, 0, 0⟩).ShortOf 0 flyingRecord 0 1 ∧
      ((monitored ⟨0, 0, 1, 0, 0⟩).head 0).monitorSettings.stallDebounce ≤ 1 + 1 ∧
      (flying.ShortOf 0 flyingRecord 0 1 ∧ 0 + 1 < (flying.head 0).monitorSettings.stallDebounce) ∧
      (flying.Checked 0 (some flyingRecord.issue) flyingRecord ∧
        (((flying.modHead 0 HeadRecord.signOfLife).dragCheck 0 flyingRecord 601).head 0).state ≠ .fault) := by decide

/-- A record of head 0 in flight, changed, under a monitor state. -/
def carrying (f : InFlight → InFlight) (m : Monitor) : State :=
  withHead0 (fun hd => { hd with inFlight := [f flyingRecord], monitor := m }) flying

def asTravel (r : InFlight) : InFlight := { r with stroke := { r.stroke with kind := .travel } }
def asHigh (r : InFlight) : InFlight := { r with sawHigh := true }

theorem test_witness_CleanCompletionsStepDown :
    (((carrying asTravel .reset).head 0).inFlight.head? = some (asTravel flyingRecord) ∧
        (asTravel flyingRecord).stroke.kind = .travel) ∧
      (((carrying asHigh ⟨0, 0, 0, 2, 1⟩).head 0).inFlight.head? = some (asHigh flyingRecord) ∧
        (asHigh flyingRecord).sawHigh = true) ∧
      (flyingRecord.stroke.kind = .cut ∧ flyingRecord.sawHigh = false ∧ (flying.head 0).monitor.derate = 0) ∧
      (((monitored ⟨0, 0, 0, 2, 1⟩).head 0).monitor.derate = 1 ∧
        2 + 1 < ((monitored ⟨0, 0, 0, 2, 1⟩).head 0).monitorSettings.stepDownCount) ∧
      ((monitored ⟨0, 0, 0, 3, 1⟩).head 0).monitorSettings.stepDownCount ≤ 3 + 1 := by decide

theorem test_witness_OverdueLimitRoundsUp : 1 ≤ flyingRecord.ratedFeed ∧ 1 ≤ (timed here 1).ratedFeed := by decide

theorem test_witness_PresetsWrittenForTheSender : 15 < (16 : Byte).toNat ∧ (15 : Byte).toNat ≤ 15 := by decide

theorem test_witness_ProtectedSetReplaced :
    (⟨7, 1⟩ : Header).source ≠ 0 ∧ hdr.source = 0 ∧ 3 < (4 : Byte).toNat ∧ (3 : Source).val = (3 : Byte).toNat := by decide

theorem test_witness_SpanWriteProgramsCells :
    (State.reset.Listens ∧ State.reset.block.state ≠ .loaded) ∧ loaded.Listens ∧ loaded.block.state = .loaded ∧
      loaded.BlockLaw ∧ loaded.MapLaw ∧ ¬ (33 : Byte).toNat ≤ 32 ∧ (32 : Byte).toNat ≤ 32 ∧
      ¬ (3 : Byte).toNat < loaded.block.rows ∧ (2 : Byte).toNat < loaded.block.rows ∧
      ¬ ((2 : Byte) = 0 ∨ (2 : Byte) = 1) := by decide

theorem test_witness_MapQueriesAnswerTheCells :
    (State.reset.Listens ∧ State.reset.block.state ≠ .loaded) ∧ loaded.Listens ∧ loaded.block.state = .loaded ∧
      1 ≤ (1 : Byte).toNat ∧ ¬ 1 ≤ (0 : Byte).toNat ∧ (3 : Byte).toNat < loaded.block.columns ∧
      ¬ (4 : Byte).toNat < loaded.block.columns ∧ (2 : Byte).toNat < loaded.block.rows := by decide

/-! #### Admission -/

/-- Head 0 with a stroke at the front of its queue and its own occasion, in a given state. -/
def facing (st : Stroke) (notify : Bool) (s : State) : State :=
  (withHead0 (fun hd => { hd with queue := [⟨st, notify⟩] }) s).withOccasions [.one 0]

def rating1 : Rating := ⟨100, some 1, some ⟨100, 600⟩⟩

/-- The map with the first cell changed. -/
def firstCell (c : Cell) (s : State) : State := s.withCells [(0, c)]

/-- All 16 done slots in use. -/
def fullSlots (s : State) : State :=
  s.withOut { s.out with notices := List.replicate 16 ⟨⟨0, 0, 0, .complete, none, 1⟩, false⟩ }

/-- A cut rating of the two cells of `cut1` is `rating1` wherever the parts it reads are as in `loaded`. -/
theorem cutRating1 (s : State) (hm : s.gradesMet cut1 = [1, 1]) (hg : s.grades = loaded.grades)
    (hh : (s.head 0).settings.rate = 40 ∧ (s.head 0).monitor.derate = 0) : s.CutRating 0 cut1 rating1 := by
  refine ⟨1, ?_, ?_, ?_⟩
  · rw [hm]; decide
  · rw [hm, hg]; decide
  · rw [hg, hh.1, hh.2]; decide

/-- The hypothesis `PassesRating` from its decidable parts. -/
theorem passes1 (s : State) (ha : s.HeadAdmits 0) (hp : s.StartsInPlace 0 cut1) (hb : s.LiesInBlock cut1)
    (hz : s.ZonesAllowed 0 cut1 ∧ s.FloorsKept cut1 ∧ s.GradesSet cut1) (hm : s.gradesMet cut1 = [1, 1])
    (hg : s.grades = loaded.grades) (hh : (s.head 0).settings.rate = 40 ∧ (s.head 0).monitor.derate = 0) :
    s.PassesRating 0 cut1 rating1 :=
  ⟨ha, hp, hb, (fun h => nomatch h), fun _ => ⟨hz.1, hz.2.1, hz.2.2, cutRating1 s hm hg hh⟩, by decide⟩

theorem test_witness_EvaluationWaits :
    ((facing cut1 true loaded).Runs ∧ (facing cut1 true loaded).occasions = [.one 0]) ∧
      ((loaded.withOccasions [.one 0]).head 0).queue = [] ∧ ¬ (facing cut1 true initialising).HeadAdmits 0 ∧
      ((fullSlots (facing cut1 true loaded)).head 0).queue.head? = some ⟨cut1, true⟩ ∧
      (fullSlots (facing cut1 true loaded)).PassesRating 0 cut1 rating1 ∧
      16 ≤ (fullSlots (facing cut1 true loaded)).slotsInUse :=
  ⟨by decide, by decide, by decide, by decide,
    passes1 _ (by decide) (by decide) (by decide) (by decide) (by decide) (by decide) (by decide), by decide⟩

/-- The first cell claimed by head 1; an older waiter on the first cell. -/
def claimedState : State := firstCell ⟨100, 0, 0, some 1, 1, false⟩ (facing cut1 false loaded)
def yieldingState : State := (facing cut1 false loaded).withWaitList [⟨1, [⟨0, 0⟩]⟩]

theorem test_witness_ClaimAndYieldWaitsRecorded :
    (claimedState.PassesRating 0 cut1 rating1 ∧ ¬ (claimedState.Unclaimed 0 cut1 ∧ claimedState.Unyielding 0 cut1)) ∧
      yieldingState.PassesRating 0 cut1 rating1 ∧
      ¬ (yieldingState.Unclaimed 0 cut1 ∧ yieldingState.Unyielding 0 cut1) :=
  ⟨⟨passes1 _ (by decide) (by decide) (by decide) (by decide) (by decide) (by decide) (by decide), by decide⟩,
    passes1 _ (by decide) (by decide) (by decide) (by decide) (by decide) (by decide) (by decide), by decide⟩

def unplaced : State := facing cut1 false (withHead0 (fun hd => { hd with chainEnd := .invalid }) loaded)
def outside : Stroke := { cut1 with finish := ⟨160, 20, 50⟩ }
def travel (z : Twelve) (feed : Twelve) : Stroke := ⟨0, 1, .travel, ⟨20, 20, z⟩, ⟨60, 20, z⟩, feed, false⟩

/-- The head placed at the start of a travel. -/
def placedFor (st : Stroke) (s : State) : State :=
  facing st false (withHead0 (fun hd => { hd with chainEnd := ⟨st.start, true⟩ }) s)

/-- A block of 300 columns, which no LOAD_BLOCK gives: there a path of 256 steps exists. -/
def wide : State := facing { cut1 with finish := ⟨10279, 20, 50⟩ } false (loaded.withBlock { small with columns := 300 })

theorem test_witness_EvaluationRefusesTheStroke_places :
    (facing cut1 false loaded).HeadAdmits 0 ∧ (unplaced.HeadAdmits 0 ∧ (unplaced.head 0).chainEnd.valid = false) ∧
      ({ cut1 with start := ⟨21, 20, 50⟩ } : Stroke).start ≠ (loaded.head 0).chainEnd.point ∧
      ((facing outside false loaded).StartsInPlace 0 outside ∧ inBlock small outside.finish = false) ∧
      (wide.HeadAdmits 0 ∧ inBlock wide.block ⟨10279, 20, 50⟩ = true ∧
        255 < pathLength wide.block { cut1 with finish := ⟨10279, 20, 50⟩ }) ∧
      ((placedFor (travel 119 9) loaded).StartsInPlace 0 (travel 119 9) ∧
        (placedFor (travel 119 9) loaded).LiesInBlock (travel 119 9) ∧
        ¬ (placedFor (travel 119 9) loaded).ClearsBlock 0 (travel 119 9)) ∧
      (placedFor (travel 120 0) loaded).ClearsBlock 0 (travel 120 0) ∧
      min (travel 120 0).feed.toNat (loaded.head 0).settings.travelMax = 0 := by decide

theorem test_witness_EvaluationRefusesTheStroke_map :
    ((facing cut1 false loaded).StartsInPlace 0 cut1 ∧ (facing cut1 false loaded).LiesInBlock cut1) ∧
      (¬ (firstCell ⟨100, 0, 3, none, 0, false⟩ (facing cut1 false
        (withHead0 (fun hd => { hd with settings := { hd.settings with zoneSet := 7 } }) loaded))).ZonesAllowed 0 cut1) ∧
      ((facing cut1 false loaded).ZonesAllowed 0 cut1 ∧
        ¬ (firstCell ⟨100, 51, 0, none, 0, false⟩ (facing cut1 false loaded)).FloorsKept cut1) ∧
      ((facing cut1 false loaded).FloorsKept cut1 ∧
        ¬ (facing cut1 false (loaded.withGrades gradesReset)).GradesSet cut1) ∧
      (facing { cut1 with feed := 0 } false loaded).GradesSet { cut1 with feed := 0 } := by decide

theorem test_witness_EvaluationRefusesTheStroke_feedZero :
    (facing { cut1 with feed := 0 } false loaded).CutRating 0 { cut1 with feed := 0 } ⟨0, some 1, some ⟨100, 600⟩⟩ :=
  ⟨1, by decide, by decide, by decide⟩

theorem test_witness_EvaluationIssuesTheStroke :
    queued.Runs ∧ queued.occasions = [.one 0] ∧ (queued.head 0).queue.head? = some ⟨cut1, true⟩ ∧
      queued.PassesRating 0 cut1 rating1 ∧ queued.slotsInUse < 16 ∧ queued.Unclaimed 0 cut1 ∧
      queued.Unyielding 0 cut1 :=
  ⟨by decide, by decide, by decide,
    passes1 _ (by decide) (by decide) (by decide) (by decide) (by decide) (by decide) (by decide), by decide, by decide,
    by decide⟩

theorem test_witness_PassEvaluatesInOrder :
    (loaded.withOccasions [.pass (some 2)]).Runs ∧ (loaded.withOccasions [.pass (some 2)]).occasions = [.pass (some 2)] ∧
      queued.occasions = [.one 0] := by decide

/-- Half steps of a path of 4 from 0 to 2 and back: both round away from zero. -/
theorem test_witness_PathAndFootprintOfAStroke :
    RoundedStep 0 2 1 4 1 ∧ RoundedStep 2 0 1 4 1 ∧ ¬ RoundedStep 0 2 1 4 0 ∧ ¬ RoundedStep 2 0 1 4 2 ∧
      along 0 2 1 4 = 1 ∧ along 2 0 1 4 = 1 ∧ 0 < pathLength loaded.block cut1 := by decide

theorem test_witness_GradesOfCrossedLayers :
    (100 ≤ 100 ∨ bun.top ≤ 100) ∧ (360 ≤ 360 ∨ bun.top ≤ 360) ∧ 100 < 101 ∧ 100 < bun.top := by decide

/-! #### Reports, links and laws -/

theorem test_witness_reports :
    flying.Runs ∧ (flying.head 0).ListLaw ∧ (flying.head 0).inFlight.head? = some flyingRecord ∧
      (2 : Word).toNat ≤ flyingRecord.pathLength + 1 ∧ flying.BlockLaw ∧ flying.FlightLaw ∧ flying.FlightInBlock ∧
      flying.MapLaw ∧ (faultFlying.Listens ∧ (faultFlying.head 0).state = .fault ∧
        faultFlying.pins.machineStop = false ∧ faultFlying.BlockLaw ∧ faultFlying.FlightLaw ∧
        faultFlying.FlightInBlock ∧ faultFlying.MapLaw) := by
  and_intros <;> decide

theorem test_witness_StaleReportChangesNothing :
    flyingRecord.issue ≠ 1 ∧ flyingRecord.pathLength + 1 < (3 : Word).toNat ∧ (loaded.head 0).inFlight.head? = none := by
  decide

theorem test_witness_DroppedFramesAreCounted :
    ((0xC2 : Byte) ≠ 0xC3 ∧ (List.replicate 48 (0 : Byte)).length ≤ 48 ∧ 48 < (49 : Byte).toNat) ∧ (loaded.withCounters ⟨65535, 65535, 65535, 65535⟩).Runs ∧
      (loaded.withCounters ⟨65535, 65535, 65535, 65535⟩).CountersLaw := by decide

def simpleReply : Reply := ⟨7, 0x77, .badCommand, .none⟩
def doneWaiting : State := after (.complete 0 0 here) flying

/-- The notice and the slot of a frame on the transmitter, discarded; a newer notice not being sent. -/
theorem test_witness_SentFramesFreeTheirSlots_discarded :
    ((after (.resetPart hdr (.given .mk)) doneWaiting).out.tx =
        some ⟨.done ⟨0, 0, 0x1234, .complete, none, 100⟩ 0, 0⟩ ∧
      (after (.resetPart hdr (.given .mk)) doneWaiting).out.notices = []) ∧
    ((after (.setEvents hdr (.given ⟨0⟩)) stopped).out.tx.map fun p => p.frame.eventOf.isSome) = some true ∧
      (after (.setEvents hdr (.given ⟨0⟩)) stopped).out.events = [] := by decide

theorem test_witness_SentFramesFreeTheirSlots :
    ((∀ record, simpleReply.results ≠ .readStatus record) ∧
        (after (.badCommand hdr 0x77) loaded).out.tx = some ⟨.reply simpleReply, 0⟩) ∧
      ((after .replySent occupied).out.tx.map fun p => p.frame.replyOf.isSome) = some true ∧
      (∃ record r fresh, r.results = .readStatus record ∧ occupied.out.tx = some ⟨.reply r, fresh⟩) ∧
      (doneWaiting.out.tx = some ⟨.done ⟨0, 0, 0x1234, .complete, none, 100⟩ 0, 0⟩ ∧
        doneWaiting.out.notices = [⟨⟨0, 0, 0x1234, .complete, none, 100⟩, true⟩]) ∧
      (stopped.EventsLaw ∧ ∃ e ∈ stopped.out.events, e.sending = true ∧
        stopped.out.tx = some ⟨.event e.cls e.first 0, 0⟩) :=
  ⟨⟨fun _ h => (nomatch h), by decide⟩, by decide, ⟨_, _, _, rfl, rfl⟩, by decide, by decide⟩

theorem test_witness_OccurrenceReachesItsSlot :
    enabledIn 0 (.ofPart .machineStop) = false ∧ enabledIn loaded.out.enables (.ofPart .machineStop) = true ∧
      isPending loaded.out.events (.ofPart .machineStop) = false ∧ isPending stopped.out.events (.ofPart .machineStop) = true ∧
      (stopped.out.events.any fun e => e.sending && e.late.isNone) = true ∧
      (stopped.out.events.any fun e => !e.sending) = true ∧
      ((after (.driveFault 0 1 1) (after (.clearHead hdr (.given ⟨0, here⟩)) faultState)).out.events.any fun e =>
        e.sending && e.late.isSome) = true := by decide

theorem test_witness_TransmittersTakeTheNextFrame :
    (loaded.out.tx = none ∧ loaded.out.events = [] ∧ loaded.out.replySlot = none ∧ loaded.out.notices = []) ∧
      stopped.out.tx.isSome = true ∧ flying.drive.tx.isSome = true := by decide

/-- A free transmitter, and the end of each kind of frame. -/
theorem test_witness_TransmittersTakeTheNextFrame_freed :
    (loaded.SendingLaw ∧ loaded.FreesLine .pass) ∧
      (stopped.SendingLaw ∧ stopped.FreesLine .eventSent) ∧ (doneWaiting.SendingLaw ∧ doneWaiting.FreesLine .doneSent) ∧
      (after (.badCommand hdr 0x77) loaded).SendingLaw ∧
      (after (.badCommand hdr 0x77) loaded).FreesLine .replySent :=
  ⟨⟨by decide, .inl (by decide)⟩, ⟨by decide, .inr ⟨_, rfl, .inr (.inr ⟨rfl, _, _, _, rfl⟩)⟩⟩,
    ⟨by decide, .inr ⟨_, rfl, .inr (.inl ⟨rfl, _, _, rfl⟩)⟩⟩, by decide,
    .inr ⟨_, rfl, .inl ⟨rfl, simpleReply, .inr ⟨rfl, fun _ h => nomatch h⟩⟩⟩⟩

/-- A state with a stroke in flight and one with a faulted head keep every law, and their steps answer. -/
theorem test_witness_laws :
    flying.HeadsLawful ∧ flying.RangesLaw ∧ flying.QueuesLaw ∧ flying.RecordsLaw ∧ flying.FlightLaw ∧
      flying.FlightInBlock ∧ flying.BlockLaw ∧ flying.MapLaw ∧ flying.KerfLaw ∧ flying.EntriesLaw ∧ flying.WaitLaw ∧
      flying.SlotsLaw ∧ flying.EventsLaw ∧ flying.LineHoldLaw ∧ flying.CountersLaw ∧ flying.SlotLaw ∧ flying.NoIdleLaw ∧
      flying.block.state = .loaded := by
  and_intros <;> decide

/-- The visit under way, and a receiver inside the longest frame. -/
theorem test_witness_laws_of_visit_and_receivers :
    (initialising.FlightLaw ∧ initialising.VisitLaw) ∧
      (loaded.withReceivers ⟨.inside 48 0x11 (List.replicate 49 0), .sizedBy 48⟩).ReceiversLaw := by decide

theorem test_witness_claims_and_drive_queue :
    flying.ClaimsLaw ∧ flying.DriveQueueLaw ∧ faultFlying.ClaimsLaw ∧ faultFlying.DriveQueueLaw := by decide

def strokePayload (kind : Byte) : List Byte := [3, 0, 0, kind] ++ List.replicate 15 0

theorem test_witness_StrokeFrameLayout :
    (strokePayload 2).length = 19 ∧ (strokePayload 2).getD 3 0 ≠ 0 ∧ (strokePayload 2).getD 3 0 ≠ 1 ∧
      (strokePayload 1).getD 3 0 = 1 ∧ ((strokePayload 1).getD 0 0).toNat ≤ 3 ∧ (1 :: strokePayload 1).length ≠ 19 ∧
      ∃ c, crc (19 :: 0x10 :: strokePayload 1) = c :=
  ⟨by decide, by decide, by decide, by decide, by decide, by decide, _, rfl⟩

theorem test_witness_step_answers :
    step (flying.withPending [.complete 0 0 here]) = .next (after (.complete 0 0 here) flying) := rfl

end Sys2Proof.Tests
end

/-! ### READ_STATUS and the link counters (R160, R161, R167) -/

namespace Sys2Proof.Machine

section
variable (s : State)

/-! #### The event pending set of an update, and the counters of a dropped frame -/

@[simp] theorem State.eventContents_withMgmt (v : Management) : (s.withMgmt v).eventContents = s.eventContents := rfl

@[simp] theorem State.eventContents_withCounters (v : LinkCounters) :
    (s.withCounters v).eventContents = s.eventContents := rfl

@[simp] theorem State.eventContents_answer (status : Status) (results : Results) :
    (s.answer status results).eventContents = s.eventContents := by
  rw [State.eventContents, State.answer_events, ← State.eventContents]

@[simp] theorem State.withCounters_self : s.withCounters s.counters = s := rfl

/-- A frame that ends without being taken is counted once, on its link (R166, R167). -/
@[simp] theorem State.endFrame_counters (link : Link) (error : LinkError) :
    (s.endFrame link error).counters = s.counters.bump link error := rfl

/-! #### READ_STATUS -/

/-- What the command slot holds is no field of the status record (R160). -/
theorem State.statusRecord_withSlot (slot : Option Instr) :
    (s.withMgmt { s.mgmt with slot := slot }).statusRecord = s.statusRecord := rfl

/-- Both forms of READ_STATUS at once: an answer with the record of the state before the counters are written (R161). -/
theorem readStatusEffect_eq (ops : ReadStatusOps) :
    readStatusEffect ops s = (s.answer .ok (.readStatus s.statusRecord)).withCounters
      (if ops.clearCounters then .zero else s.counters) := by
  simp only [readStatusEffect]
  split
  · rfl
  · rw [← s.answer_counters .ok (.readStatus s.statusRecord), State.withCounters_self]

@[simp] theorem readStatusEffect_counters (ops : ReadStatusOps) :
    (readStatusEffect ops s).counters = if ops.clearCounters then .zero else s.counters := by
  rw [readStatusEffect_eq, State.withCounters_counters]

@[simp] theorem readStatusEffect_pins (ops : ReadStatusOps) : (readStatusEffect ops s).pins = s.pins := by
  rw [readStatusEffect_eq, State.withCounters_pins, State.answer_pins]

@[simp] theorem readStatusEffect_eventContents (ops : ReadStatusOps) :
    (readStatusEffect ops s).eventContents = s.eventContents := by
  rw [readStatusEffect_eq, State.eventContents_withCounters, State.eventContents_answer]

/-- The REPLY of a READ_STATUS that holds the command slot carries the record as read. -/
theorem readStatusEffect_replySlot {hdr : Header} {given : Operands ReadStatusOps}
    (hs : s.mgmt.slot = some (.readStatus hdr given)) (ops : ReadStatusOps) :
    (readStatusEffect ops s).out.replySlot = some ⟨hdr.seq, 0x30, .ok, .readStatus s.statusRecord⟩ := by
  rw [readStatusEffect_eq, State.withCounters_out]
  exact s.answer_replySlot hs rfl rfl .ok _

/-- READ_STATUS into an empty slot of a running part. -/
theorem exec_readStatus_listens (hdr : Header) (ops : ReadStatusOps) (h : s.Listens) :
    exec (.readStatus hdr (.given ops)) s =
      .next (settle (readStatusEffect ops
        (s.withMgmt { s.mgmt with slot := some (.readStatus hdr (.given ops)) }))) :=
  manage_given s _ hdr readStatusEffect ops h

/-! #### CORRUPT_FRAME -/

/-- A running part counts a corrupt frame by the check it failed (R166). -/
theorem exec_corruptFrame_counters (link : Link) (check : FrameCheck) (h : s.Runs) :
    ∃ u, exec (.corruptFrame link check) s = .next u ∧ u.counters = s.counters.bump link (errorOf check) :=
  ⟨_, act_runs s h, by rw [settle_counters, State.endFrame_counters]⟩

end

/-- Settles O11: the record is taken from the state before the counters are written, and the clearing leaves RESET
high, so that a frame dropped next is counted from 0. -/
theorem clearFlagReadsThenClears : Obligations.ClearFlagReadsThenClears := by
  intro hdr clear s h
  refine ⟨_, s.statusRecord, exec_readStatus_listens s hdr ⟨clear⟩ h, ?reply, rfl, ?cleared, ?events, ?later⟩
  case reply => rw [settle_replySlot, readStatusEffect_replySlot _ rfl, State.statusRecord_withSlot]
  case cleared => rw [settle_counters, readStatusEffect_counters, State.withMgmt_counters, LinkCounters.zero]
  case events => rw [SameEvents, settle_eventContents, readStatusEffect_eventContents, State.eventContents_withMgmt]
  case later =>
    rintro rfl link check
    refine (exec_corruptFrame_counters _ link check ?runs).imp fun u ⟨hu, hcount⟩ => ⟨hu, hcount.trans ?fromZero⟩
    case runs => rw [State.Runs, settle_resetLow, readStatusEffect_pins, State.withMgmt_pins, h.1]
    case fromZero => rw [settle_counters, readStatusEffect_counters, if_pos rfl, LinkCounters.zero]

end Sys2Proof.Machine

/-! ### The layout of a STROKE frame (R176, R177) -/

namespace Sys2Proof

section
variable (p : List Byte) (i : Nat)

/-! #### The fields of a payload as numbers (R176) -/

/-- A two-byte field is sent most significant byte first (R176). -/
theorem toNat_wordAt : (wordAt p i).toNat = 256 * (byteAt p i).toNat + (byteAt p (i + 1)).toNat := by
  have low : (byteAt p (i + 1)).toNat < 2 ^ 8 := (byteAt p (i + 1)).isLt
  calc (wordAt p i).toNat
      = (byteAt p i).toNat <<< 8 ||| (byteAt p (i + 1)).toNat := BitVec.toNat_append _ _
    _ = (byteAt p i).toNat <<< 8 + (byteAt p (i + 1)).toNat := (Nat.shiftLeft_add_eq_or_of_lt low _).symm
    _ = 256 * (byteAt p i).toNat + (byteAt p (i + 1)).toNat := by rw [Nat.shiftLeft_eq, Nat.mul_comm]

/-- The bits of a two-byte field above the low 12 are ignored (R176). -/
theorem toNat_twelveAt :
    (twelveAt p i).toNat = (256 * (byteAt p i).toNat + (byteAt p (i + 1)).toNat) % 4096 := by
  rw [twelveAt, BitVec.toNat_setWidth, toNat_wordAt]

/-- A point is sent as x, y and height, two bytes each (R176). -/
theorem toNat_pointAt :
    (pointAt p i).x.toNat = 256 * (byteAt p i).toNat + (byteAt p (i + 1)).toNat ∧
      (pointAt p i).y.toNat = 256 * (byteAt p (i + 2)).toNat + (byteAt p (i + 2 + 1)).toNat ∧
      (pointAt p i).z.toNat = (256 * (byteAt p (i + 4)).toNat + (byteAt p (i + 4 + 1)).toNat) % 4096 :=
  ⟨toNat_wordAt p i, toNat_wordAt p (i + 2), toNat_twelveAt p (i + 4)⟩

/-- A flag byte is set when it is odd: its other bits are ignored (R176). -/
theorem flagAt_iff_odd : flagAt p i = true ↔ (byteAt p i).toNat % 2 = 1 := by
  rw [flagAt, BitVec.getLsbD, Nat.testBit_zero, decide_eq_true_iff]

/-- A head byte that passes check 4 of R166 is the number of the head it names. -/
theorem headOf_val {b : Byte} (h : b.toNat ≤ 3) : (headOf b).val = b.toNat :=
  Nat.mod_eq_of_lt (Nat.lt_succ_of_le h)

/-! #### The stroke record (R177) -/

/-- A kind byte of 0 is a CUT. -/
theorem decodeStroke_kind_cut_iff : (decodeStroke p).kind = .cut ↔ (byteAt p 3).toNat = 0 :=
  calc (decodeStroke p).kind = .cut
    _ ↔ byteAt p 3 = 0 := by simp [decodeStroke]
    _ ↔ (byteAt p 3).toNat = 0 := BitVec.toNat_inj.symm

/-- Every other kind byte is read as a TRAVEL; check 4 of R166 passes only 1 of them. -/
theorem decodeStroke_kind_travel_iff : (decodeStroke p).kind = .travel ↔ (byteAt p 3).toNat ≠ 0 := by
  rw [ne_eq, ← decodeStroke_kind_cut_iff]
  cases (decodeStroke p).kind <;> decide

/-! #### Checks 2 to 4 of R166 on a STROKE frame -/

/-- After check 1 a frame of the line link is read by its kind and payload (R166). -/
theorem decodeFrame_line_of_crc {kind : Byte} {c : Word} (h : crc (BitVec.ofNat 8 p.length :: kind :: p) = c) :
    decodeFrame .line kind p c = decodeLineFrame kind p := if_neg (not_not_intro h)

/-- Check 3: a STROKE payload has 19 bytes. -/
theorem decodeLineFrame_stroke_wrongLength (h : p.length ≠ 19) :
    decodeLineFrame 0x10 p = .corruptFrame .line .length := if_pos h

/-- Check 4: the head byte or the kind byte of a STROKE frame is out of range. -/
theorem decodeLineFrame_stroke_badField (hlen : p.length = 19)
    (h : 3 < (byteAt p 0).toNat ∨ 1 < (byteAt p 3).toNat) :
    decodeLineFrame 0x10 p = .corruptFrame .line .field :=
  (if_neg (not_not_intro hlen)).trans (if_pos h)

/-- A STROKE frame that passes the checks is the stroke of its payload. -/
theorem decodeLineFrame_stroke_taken (hlen : p.length = 19) (hhead : (byteAt p 0).toNat ≤ 3)
    (hkind : (byteAt p 3).toNat ≤ 1) : decodeLineFrame 0x10 p = .stroke (decodeStroke p) :=
  (if_neg (not_not_intro hlen)).trans (if_neg (by omega))

end

/-- Settles O60: past the CRC the frame is read by its length, then its kind byte, and the record field by field. -/
theorem strokeFrameLayout : Obligations.StrokeFrameLayout := by
  intro p c _ hcrc
  have read := decodeFrame_line_of_crc p hcrc
  refine ⟨fun hlen => ?length, fun hlen hk0 hk1 => ?kind, fun hlen hkind hhead => ?taken⟩
  case length => exact ⟨.length, read.trans (decodeLineFrame_stroke_wrongLength p hlen), rfl⟩
  case kind =>
    have above : 1 < (byteAt p 3).toNat := Nat.one_lt_iff_ne_zero_and_ne_one.mpr ⟨hk0, hk1⟩
    exact ⟨.field, read.trans (decodeLineFrame_stroke_badField p hlen (.inr above)), rfl⟩
  case taken =>
    have upto : (byteAt p 3).toNat ≤ 1 := Nat.le_one_iff_eq_zero_or_eq_one.mpr hkind
    have travel : (decodeStroke p).kind = .travel ↔ (byteAt p 3).toNat = 1 :=
      (decodeStroke_kind_travel_iff p).trans (by omega)
    exact ⟨decodeStroke p, read.trans (decodeLineFrame_stroke_taken p hlen hhead upto), headOf_val hhead,
      toNat_wordAt p 1, decodeStroke_kind_cut_iff p, travel, flagAt_iff_odd p 4,
      toNat_pointAt p 5, toNat_pointAt p 11, toNat_twelveAt p 17⟩

end Sys2Proof

/-! ### Chains of steps -/

namespace Sys2Proof.Machine

/-- Steps of a relation one after another, none among them. -/
inductive Chain {α : Type} (r : α → α → Prop) (a : α) : α → Prop
  | refl : Chain r a a
  | tail {b c : α} (before : Chain r a b) (last : r b c) : Chain r a c

section
variable {α : Type} {r : α → α → Prop} {a b c : α}

theorem Chain.single (h : r a b) : Chain r a b := .tail .refl h

theorem Chain.trans (ab : Chain r a b) (bc : Chain r b c) : Chain r a c := by
  induction bc with
  | refl => exact ab
  | tail _ last ih => exact ih.tail last

theorem Chain.head (h : r a b) (bc : Chain r b c) : Chain r a c := (Chain.single h).trans bc

end

/-! ### Lists -/

section
variable {α β : Type}

theorem eq_cons_of_head? {a : α} {l : List α} (front : l.head? = some a) : l = a :: l.tail := by
  cases l with
  | nil => cases front
  | cons b rest => obtain rfl : b = a := Option.some.inj front; rfl

/-- A map takes two different members of a list without repetition to different values, when its values do not repeat. -/
theorem eq_of_nodup_map {f : α → β} {l : List α} {a b : α} (once : (l.map f).Nodup) (ha : a ∈ l) (hb : b ∈ l)
    (same : f a = f b) : a = b := by
  induction l with
  | nil => cases ha
  | cons x rest ih =>
    obtain ⟨fresh, once⟩ := List.nodup_cons.mp once
    rcases List.mem_cons.mp ha with isA | ha <;> rcases List.mem_cons.mp hb with isB | hb
    · exact isA.trans isB.symm
    · exact absurd (List.mem_map.mpr ⟨b, hb, isA ▸ same.symm⟩) fresh
    · exact absurd (List.mem_map.mpr ⟨a, ha, isB ▸ same⟩) fresh
    · exact ih once ha hb

theorem nodup_map_of_inj {f : α → β} {l : List α} (once : l.Nodup) (inj : ∀ a ∈ l, ∀ b ∈ l, f a = f b → a = b) :
    (l.map f).Nodup :=
  List.pairwise_map.mpr (once.imp_of_mem fun ha hb differ same => differ (inj _ ha _ hb same))

theorem nodup_filter {l : List α} (once : l.Nodup) (p : α → Bool) : (l.filter p).Nodup := once.sublist List.filter_sublist

theorem foldl_congr_of_mem {f g : β → α → β} {l : List α} (same : ∀ b, ∀ a ∈ l, f b a = g b a) (b : β) :
    l.foldl f b = l.foldl g b := by
  induction l generalizing b with
  | nil => rfl
  | cons a rest ih =>
    rw [List.foldl_cons, List.foldl_cons, same b a List.mem_cons_self]
    exact ih (fun c x hx => same c x (List.mem_cons_of_mem a hx)) _

theorem nodup_one (a : α) : [a].Nodup := List.nodup_cons.mpr ⟨List.not_mem_nil, List.nodup_nil⟩

/-- Lists strung together repeat nothing, when none of them does and no two of them share a member. -/
theorem nodup_flatMap_of {f : α → List β} {l : List α} (each : ∀ a ∈ l, (f a).Nodup)
    (apart : l.Pairwise fun a b => ∀ x ∈ f a, x ∉ f b) : (l.flatMap f).Nodup := by
  induction l with
  | nil => exact List.nodup_nil
  | cons a rest ih =>
    obtain ⟨off, apart⟩ := List.pairwise_cons.mp apart
    have later := ih (fun b hb => each b (List.mem_cons_of_mem a hb)) apart
    refine List.nodup_append.mpr ⟨each a List.mem_cons_self, later, fun x hx y hy same => ?_⟩
    obtain ⟨b, hb, hy⟩ := List.mem_flatMap.mp hy
    exact off b hb x hx (same ▸ hy)

end

/-! ### Entries of vectors -/

theorem get_eq_getElem_val {α : Type} {n : Nat} (v : Vector α n) (i : Fin n) : v.get i = v[i.val] := rfl

/-- Every head is at its reset values after reset. -/
theorem State.head_reset (h : Head) : State.reset.head h = .reset := by
  rw [State.head, State.reset, get_eq_getElem_val, Vector.getElem_replicate]

end Sys2Proof.Machine

/-! ### What a command comes to, and what a step can be -/

namespace Sys2Proof.Machine

/-- The effect of a command on the part, before the outputs follow (`settle`): the row of the opcode table without the
test of the RESET pin. -/
def effectOf : Instr → State → State
  | .stroke st => strokeEffect st
  | .loadBlock hdr ops => manageTo (.loadBlock hdr ops) hdr ops loadBlockEffect
  | .initialisationVisitEnd => initialisationVisitEndEffect
  | .unloadBlock hdr ops => manageTo (.unloadBlock hdr ops) hdr ops unloadBlockEffect
  | .unloadVisitEnd => unloadVisitEndEffect
  | .writeGrade hdr ops => manageTo (.writeGrade hdr ops) hdr ops writeGradeEffect
  | .setNotifyWindow hdr ops => manageTo (.setNotifyWindow hdr ops) hdr ops setNotifyWindowEffect
  | .flushQueue hdr ops => manageTo (.flushQueue hdr ops) hdr ops flushQueueEffect
  | .setHead hdr ops => manageTo (.setHead hdr ops) hdr ops setHeadEffect
  | .setPosition hdr ops => manageTo (.setPosition hdr ops) hdr ops setPositionEffect
  | .holdHead hdr ops => manageTo (.holdHead hdr ops) hdr ops holdHeadEffect
  | .releaseHead hdr ops => manageTo (.releaseHead hdr ops) hdr ops releaseHeadEffect
  | .clearHead hdr ops => manageTo (.clearHead hdr ops) hdr ops clearHeadEffect
  | .setMonitor hdr ops => manageTo (.setMonitor hdr ops) hdr ops setMonitorEffect
  | .setTimers hdr ops => manageTo (.setTimers hdr ops) hdr ops setTimersEffect
  | .setPreset hdr ops => manageTo (.setPreset hdr ops) hdr ops (setPresetEffect hdr.source)
  | .setSource hdr ops => manageTo (.setSource hdr ops) hdr ops (setSourceEffect hdr.source)
  | .spanWrite hdr ops => manageTo (.spanWrite hdr ops) hdr ops (spanWriteEffect hdr.source)
  | .spanQuery hdr ops => manageTo (.spanQuery hdr ops) hdr ops spanQueryEffect
  | .readCell hdr ops => manageTo (.readCell hdr ops) hdr ops readCellEffect
  | .setEvents hdr ops => manageTo (.setEvents hdr ops) hdr ops setEventsEffect
  | .readStatus hdr ops => manageTo (.readStatus hdr ops) hdr ops readStatusEffect
  | .setJobTag hdr ops => manageTo (.setJobTag hdr ops) hdr ops setJobTagEffect
  | .resetPart hdr ops => manageTo (.resetPart hdr ops) hdr ops resetPartEffect
  | .badCommand hdr code => manageTo (.badCommand hdr code) hdr (.given NoOps.mk) badCommandEffect
  | .evaluation h => evaluationEffect h
  | .pass => passEffect
  | .driveFrameSent => driveFrameSentEffect
  | .status h executing drag cycles ms => statusEffect h executing drag.toNat cycles.toNat ms.toNat
  | .complete h issue _ => completeEffect h issue
  | .halted h issue cellsDone stop => haltedEffect h issue cellsDone.toNat stop
  | .driveFault h issue code => driveFaultEffect h issue code
  | .statusGapExpiry h => statusGapExpiryEffect h
  | .overdueExpiry h => overdueExpiryEffect h
  | .machineStopAsserted => machineStopAssertedEffect
  | .machineStopDeasserted => machineStopDeassertedEffect
  | .corruptFrame link check => State.endFrame link (errorOf check)
  | .lengthAbove48 link _ | .receiveGap link => State.endFrame link .malformed
  | .replySent => replySentEffect
  | .doneSent => doneSentEffect
  | .eventSent => eventSentEffect
  | .resetPinLow => resetPinLowEffect
  | .powerOnReset => State.resetValues

/-- A level of MACHINE STOP is an act of the running part (R135). -/
theorem takeStop_runs {level : Bool} {edge : State → State} {s : State} (h : s.Runs) :
    takeStop level edge s = .next (settle (edge s)) := by
  rw [takeStop, if_neg (by simp [show s.pins.resetLow = false from h]), act_runs s h]

/-- While RESET is low a level of MACHINE STOP is taken and nothing else (R186). -/
theorem takeStop_low {level : Bool} {edge : State → State} {s : State} (h : s.pins.resetLow = true) :
    takeStop level edge s = .next (s.setStop level) := if_pos h

/-- A running part carries out the effect of a command, and the outputs follow. -/
theorem exec_runs {c : Instr} {s : State} (h : s.Runs) (hl : c ≠ .resetPinLow) (hp : c ≠ .powerOnReset) :
    exec c s = .next (settle (effectOf c s)) := by
  cases c
  case resetPinLow => exact absurd rfl hl
  case powerOnReset => exact absurd rfl hp
  case machineStopAsserted | machineStopDeasserted => exact takeStop_runs h
  all_goals exact act_runs s h

/-- While RESET is low a command but those of the RESET pin changes at most the taken MACHINE STOP level. -/
theorem exec_low {c : Instr} {s t : State} (h : s.pins.resetLow = true) (hl : c ≠ .resetPinLow) (hp : c ≠ .powerOnReset)
    (ht : exec c s = .next t) : ∃ level, t = s.setStop level := by
  cases c
  case resetPinLow => exact absurd rfl hl
  case powerOnReset => exact absurd rfl hp
  case machineStopAsserted | machineStopDeasserted =>
    exact ⟨_, (Host.Outcome.next.inj ((takeStop_low h).symm.trans ht)).symm⟩
  all_goals exact ⟨s.pins.machineStop, (Host.Outcome.next.inj ((act_low s h).symm.trans ht)).symm⟩

/-- What a command can be: RESET low, power-on reset, a level of MACHINE STOP (or nothing) while RESET is low, or an
effect of the running part with the outputs following it. -/
theorem exec_cases {c : Instr} {s t : State} (ht : exec c s = .next t) :
    (c = .resetPinLow ∧ t = resetPinLowEffect s) ∨ (c = .powerOnReset ∧ t = s.resetValues) ∨
      (s.pins.resetLow = true ∧ ∃ level, t = s.setStop level) ∨
      (s.Runs ∧ c ≠ .resetPinLow ∧ c ≠ .powerOnReset ∧ t = settle (effectOf c s)) := by
  by_cases hl : c = .resetPinLow
  · subst hl; exact .inl ⟨rfl, by cases ht; rfl⟩
  by_cases hp : c = .powerOnReset
  · subst hp; exact .inr (.inl ⟨rfl, by cases ht; rfl⟩)
  by_cases h : s.pins.resetLow = true
  · exact .inr (.inr (.inl ⟨h, exec_low h hl hp ht⟩))
  · have hr : s.Runs := Bool.not_eq_true _ |>.mp h
    rw [exec_runs hr hl hp] at ht
    exact .inr (.inr (.inr ⟨hr, hl, hp, by cases ht; rfl⟩))

/-- What a step can be: the front command, a signal heard, or nothing. -/
theorem step_cases {s t : State} (ht : step s = .next t) :
    (∃ c rest, s.pending = c :: rest ∧ exec c (s.withPending rest) = .next t) ∨
      (∃ x more, s.pending = [] ∧ s.arriving = x :: more ∧ t = (s.withArriving more).hear x) ∨ t = s := by
  simp only [step] at ht
  split at ht
  · next c rest hp => exact .inl ⟨c, rest, hp, ht⟩
  · next hp =>
    split at ht
    · next x more ha => exact .inr (.inl ⟨x, more, hp, ha, by cases ht; rfl⟩)
    · exact .inr (.inr (by cases ht; rfl))

/-- A property that neither the waiting commands nor the receivers touch is kept by every step when every command keeps
it. -/
theorem step_keeps {P : State → Prop} (hpending : ∀ s v, P s → P (s.withPending v))
    (hhear : ∀ s more x, P s → P ((s.withArriving more).hear x))
    (hexec : ∀ c s t, P s → exec c s = .next t → P t) {s t : State} (hs : P s) (ht : step s = .next t) : P t := by
  obtain ⟨c, rest, -, ht⟩ | ⟨x, more, -, -, rfl⟩ | rfl := step_cases ht
  · exact hexec c _ t (hpending s rest hs) ht
  · exact hhear s more x hs
  · exact hs

end Sys2Proof.Machine

/-! ### The shared operations as updates of the state -/

namespace Sys2Proof.Machine

section
variable (s : State)

/-! #### Heads -/

/-- Two changes of one record are one change. -/
theorem State.modHead_modHead (h : Head) (f g : HeadRecord → HeadRecord) :
    (s.modHead h f).modHead h g = s.modHead h fun hd => g (f hd) := by
  rw [State.modHead, State.head_modHead_same]
  simp only [State.modHead, State.setHead, State.withHeads, Vector.set_set]

/-! #### Occasions and waits -/

/-- A raised occasion is an update of the occasions alone (R62). -/
theorem State.raiseOccasion_eq (o : Occasion) : s.raiseOccasion o = s.withOccasions (s.occasions ++ s.kept [o]) := by
  simp only [State.raiseOccasion, State.kept]
  split
  · rw [List.append_nil]; rfl
  · rfl

/-- No entry of a head that the wait list does not hold. -/
theorem State.waits_iff (h : Head) : s.waits h = true ↔ ∃ e ∈ s.waitList, e.head = h := by
  simp [State.waits]

/-! #### The cut map -/

/-- Changes of one cell after another are an update of the cut map alone. -/
theorem State.foldl_modCells (f : PathCell → Cell → Cell) (l : List PathCell) :
    l.foldl (fun s p => s.modCells (f p) [p.cell]) s =
      s.withCells (l.foldl (fun m p => CutMap.modify s.block.top (f p) p.cell.address m) s.cells) := by
  induction l generalizing s with
  | nil => rfl
  | cons p l ih => rw [List.foldl_cons, ih]; rfl

/-- The cut map after the commit of path cells 0 to k − 1 (R91). -/
def State.cellsCommitted (r : InFlight) (k : Nat) (m : CutMap) : CutMap :=
  match r.stroke.kind with
  | .travel => m
  | .cut => ((path s.block r.stroke).take k).foldl
      (fun m p => CutMap.modify s.block.top (Cell.commit p.height) p.cell.address m) m

theorem State.commit_eq (r : InFlight) (k : Nat) : s.commit r k = s.withCells (s.cellsCommitted r k s.cells) := by
  rw [State.commit, State.cellsCommitted]
  cases r.stroke.kind with
  | cut => exact s.foldl_modCells (fun p => Cell.commit p.height) _
  | travel => rfl

/-- The cut map after the cells of a stroke are taken as cut to its end (R137). -/
def State.cellsResolved (r : InFlight) (m : CutMap) : CutMap :=
  match r.stroke.kind with
  | .travel => m
  | .cut => (path s.block r.stroke).foldl
      (fun m p => CutMap.modify s.block.top (Cell.resolve p.height) p.cell.address m) m

theorem State.resolveCells_eq (r : InFlight) : s.resolveCells r = s.withCells (s.cellsResolved r s.cells) := by
  rw [State.resolveCells, State.cellsResolved]
  cases r.stroke.kind with
  | cut => exact s.foldl_modCells (fun p => Cell.resolve p.height) _
  | travel => rfl

/-- The cut map after the claims of a record's footprint are released (R47). -/
def State.cellsReleased (r : InFlight) (m : CutMap) : CutMap :=
  CutMap.modifyAll s.block.top Cell.release (s.recordFootprint r) m

/-- A release changes the cut map and the occasions alone (R47, R61). -/
theorem State.releaseClaims_eq (r : InFlight) :
    s.releaseClaims r =
      (s.withCells (s.cellsReleased r s.cells)).withOccasions (s.occasions ++ s.kept [.pass none]) := by
  rw [State.releaseClaims, State.raiseOccasion_eq]; rfl

/-! #### The done queue -/

/-- The notice that a record's reservation becomes (R96). -/
def InFlight.notices (r : InFlight) (outcome : StrokeOutcome) (cells : Option Nat) : List QueuedNotice :=
  if r.reserved then [⟨⟨r.stroke.head, r.issue, r.stroke.tag, outcome, cells, r.ratedFeed⟩, false⟩] else []

theorem State.notice_eq (r : InFlight) (outcome : StrokeOutcome) (cells : Option Nat) :
    s.notice r outcome cells = s.withOut { s.out with notices := s.out.notices ++ r.notices outcome cells } := by
  rw [State.notice, InFlight.notices]
  split
  · rfl
  · rw [List.append_nil]; rfl

/-! #### Reports -/

/-- What the removal of a reported record does beside its head's record: its cells are committed and its claims
released, its notice joins the done queue, and its ISSUE frame no longer waits (R92, R94). -/
abbrev State.recordGone (h : Head) (r : InFlight) (k : Nat) (outcome : StrokeOutcome) (cells : Option Nat) : State :=
  (((s.withCells (s.cellsReleased r (s.cellsCommitted r k s.cells))).withOccasions
    (s.occasions ++ s.kept [.pass none])).withOut
    { s.out with notices := s.out.notices ++ r.notices outcome cells }).withDrive
    { s.drive with queue := s.drive.queue.filter fun f => !f.isIssueOf h r.issue }

/-- What COMPLETE and HALTED share (R92, R94). -/
theorem State.takeReport_eq (h : Head) (r : InFlight) (k : Nat) (reported : Point) (outcome : StrokeOutcome)
    (cells : Option Nat) :
    s.takeReport h r k reported outcome cells =
      (s.recordGone h r k outcome cells).modHead h
        fun hd => ({ hd with reported := ⟨reported, true⟩ }).removeOldest := by
  rw [State.takeReport, State.commit_eq, State.releaseClaims_eq, State.notice_eq]
  exact State.modHead_modHead (s.recordGone h r k outcome cells) h
    (fun hd => { hd with reported := ⟨reported, true⟩ }) HeadRecord.removeOldest

end

end Sys2Proof.Machine

/-! ### Reports, held replies and the step-down as updates of the state (R92, R94, R95, R107, R127) -/

namespace Sys2Proof.Machine

/-- The oldest record leaves: the next one is filled and the overdue timer follows (R86, R113, R114). -/
theorem HeadRecord.removeOldest_eq (hd : HeadRecord) :
    hd.removeOldest = { hd with
      inFlight := hd.listAfter
      overdueRunning := !hd.inFlight.tail.isEmpty && hd.state != .fault } := by
  simp only [HeadRecord.removeOldest, HeadRecord.startOldest, HeadRecord.listAfter]
  cases hd.inFlight.tail <;> rfl

/-- A head's record when its list has emptied (R89, R112, R127, R130). -/
def HeadRecord.emptied (hd : HeadRecord) : HeadRecord :=
  { hd with
    haltOutstanding := false
    gapTimer := .stopped
    state := if hd.state = .cutting then .ready else hd.state
    holdReplyOwed := hd.holdReplyOwed && hd.state != .held }

/-- A head's record after its oldest in-flight record has left by a report, before the report counts as a sign of life
(R92, R94, R95). -/
def HeadRecord.reportTaken (reported : Point) (hd : HeadRecord) : HeadRecord :=
  { hd.afterReport reported with gapTimer := if hd.inFlight.tail.isEmpty then .stopped else hd.gapTimer }

/-- The step-down is due: a clean CUT stroke at the step-down count of a derated head (R107). -/
def HeadRecord.stepsDown (r : InFlight) (hd : HeadRecord) : Bool :=
  r.stroke.kind == .cut && !r.sawHigh && hd.monitor.derate != 0 &&
    hd.monitorSettings.stepDownCount ≤ hd.monitor.cleanCount + 1

/-- The monitor after the COMPLETE of a record (R107). -/
def HeadRecord.steppedDown (r : InFlight) (hd : HeadRecord) : Monitor :=
  match r.stroke.kind with
  | .travel => hd.monitor
  | .cut =>
    if r.sawHigh then { hd.monitor with cleanCount := 0 }
    else if hd.monitor.derate = 0 then hd.monitor
    else if hd.monitorSettings.stepDownCount ≤ hd.monitor.cleanCount + 1 then
      { hd.monitor with derate := hd.monitor.derate - 1, cleanCount := 0 }
    else { hd.monitor with cleanCount := hd.monitor.cleanCount + 1 }

section
variable (s : State)

/-- The reply slot alone changes. -/
abbrev State.withReply (v : Option Reply) : State := s.withOut { s.out with replySlot := v }

theorem State.answer_withReply (status : Status) (results : Results) :
    s.answer status results = s.withReply (s.replyWith status results) := s.answer_eq status results

theorem State.modHead_withReply (h : Head) (f : HeadRecord → HeadRecord) (v : Option Reply) :
    (s.modHead h f).withReply v = (s.withReply v).modHead h f := rfl

theorem State.modHead_replyWith (h : Head) (f : HeadRecord → HeadRecord) (status : Status) (results : Results) :
    (s.modHead h f).replyWith status results = s.replyWith status results := rfl

theorem State.modHead_raise (h : Head) (f : HeadRecord → HeadRecord) (cls : EventClass) (d : Details) :
    (s.modHead h f).raise cls d = (s.raise cls d).modHead h f := rfl

/-- A record written back as it is. -/
theorem State.modHead_self (h : Head) (f : HeadRecord → HeadRecord) (e : f (s.head h) = s.head h) : s.modHead h f = s := by
  have : s.heads.set h.val (s.head h) h.isLt = s.heads := by
    apply Vector.ext
    intro i hi
    rw [Vector.getElem_set]
    split
    · next hv => subst hv; rfl
    · rfl
  rw [State.modHead, e, State.setHead, this]
  rfl

/-- Changes that agree on the record of a head change the state alike. -/
theorem State.modHead_congr (h : Head) {f g : HeadRecord → HeadRecord} (e : f (s.head h) = g (s.head h)) :
    s.modHead h f = s.modHead h g := by
  rw [State.modHead, e, State.modHead]

/-- An owed hold REPLY is paid: the debt ends, and the reply slot takes the REPLY (R127). -/
theorem State.payHold_eq (h : Head) (status : Status) (results : Results) :
    s.payHold h status results =
      (s.withReply (if (s.head h).holdReplyOwed then s.replyWith status results else s.out.replySlot)).modHead h
        fun hd => { hd with holdReplyOwed := false } := by
  rw [State.payHold]
  split
  · rw [State.answer_withReply]; rfl
  · next ho =>
    rw [State.modHead_self]
    · rfl
    · show { s.head h with holdReplyOwed := false } = s.head h
      rw [← Bool.not_eq_true _ |>.mp ho]

/-- The reply slot when the list of a head has emptied: an owed hold REPLY of a head in HELD is sent (R127). -/
def State.replyEmptied (h : Head) : Option Reply :=
  if (s.head h).state = .held ∧ (s.head h).holdReplyOwed = true then
    s.replyWith .ok (.holdHead (s.head h).holdCause (s.head h).reported)
  else s.out.replySlot

/-- An emptied list is its head's record and the reply slot (R95, R127, R130). -/
theorem State.listEmptied_eq (h : Head) :
    s.listEmptied h = (s.withReply (s.replyEmptied h)).modHead h HeadRecord.emptied := by
  have paid (hs : (s.head h).state = .held) :
      (s.modHead h fun hd => { hd with haltOutstanding := false, gapTimer := .stopped }).payHold h .ok
          (.holdHead (s.head h).holdCause (s.head h).reported) =
        (s.withReply (s.replyEmptied h)).modHead h HeadRecord.emptied := by
    rw [State.payHold_eq, State.head_modHead_same, State.modHead_withReply, State.modHead_modHead]
    simp only [State.replyEmptied, hs, true_and, State.modHead_replyWith, State.modHead_out]
    refine State.modHead_congr _ h ?_
    show { s.head h with haltOutstanding := false, gapTimer := .stopped, holdReplyOwed := false } = (s.head h).emptied
    simp [HeadRecord.emptied, hs]
  simp only [State.listEmptied]
  cases hs : (s.head h).state with
  | held => exact paid hs
  | cutting =>
    refine (State.modHead_modHead _ h _ _).trans ?_
    simp only [State.replyEmptied, hs, reduceCtorEq, false_and, if_false]
    refine State.modHead_congr s h ?_
    simp [HeadRecord.emptied, hs]
  | off | ready | fault =>
    simp only [State.replyEmptied, hs, reduceCtorEq, false_and, if_false]
    refine State.modHead_congr s h ?_
    simp [HeadRecord.emptied, hs]

/-- The DERATE_CHANGE of a step-down that is due (R108). -/
abbrev State.derateNoted (h : Head) (r : InFlight) : State :=
  s.withOut (if (s.head h).stepsDown r then
    s.out.raise (.ofHead .derateChange h) (.derateChange ((s.head h).monitor.derate - 1) r.issue)
  else s.out)

/-- The step-down is its head's monitor and a DERATE_CHANGE (R107, R108). -/
theorem State.stepDown_eq (h : Head) (r : InFlight) :
    s.stepDown h r = (s.derateNoted h r).modHead h fun hd => { hd with monitor := hd.steppedDown r } := by
  have due : (s.head h).stepsDown r = true ↔ r.stroke.kind = .cut ∧ r.sawHigh = false ∧
      (s.head h).monitor.derate ≠ 0 ∧ (s.head h).monitorSettings.stepDownCount ≤ (s.head h).monitor.cleanCount + 1 := by
    simp [HeadRecord.stepsDown, and_assoc]
  rw [State.stepDown, State.derateNoted]
  cases hk : r.stroke.kind with
  | travel =>
    have no : (s.head h).stepsDown r = false := by simp [HeadRecord.stepsDown, hk]
    rw [no]
    exact (State.modHead_self s h _ (by simp [HeadRecord.steppedDown, hk])).symm
  | cut =>
    simp only
    by_cases hw : r.sawHigh = true
    · have no : (s.head h).stepsDown r = false := by simp [HeadRecord.stepsDown, hw]
      rw [no, if_pos hw]
      exact State.modHead_congr s h (by simp [HeadRecord.steppedDown, hk, hw])
    by_cases hd : (s.head h).monitor.derate = 0
    · have no : (s.head h).stepsDown r = false := by simp [HeadRecord.stepsDown, hd]
      rw [no, if_neg hw, if_pos hd]
      exact (State.modHead_self s h _ (by simp [HeadRecord.steppedDown, hk, hw, hd])).symm
    by_cases hc : (s.head h).monitorSettings.stepDownCount ≤ (s.head h).monitor.cleanCount + 1
    · rw [due.mpr ⟨hk, Bool.not_eq_true _ ▸ hw, hd, hc⟩, if_neg hw, if_neg hd, if_pos hc, if_pos rfl, State.changeDerate, State.modHead_raise]
      refine State.modHead_congr (s.raise _ _) h ?_
      simp [HeadRecord.steppedDown, hk, hw, hd, hc]
    · have no : (s.head h).stepsDown r = false := by simp [HeadRecord.stepsDown, hc]
      rw [no, if_neg hw, if_neg hd, if_neg hc]
      refine State.modHead_congr s h ?_
      simp [HeadRecord.steppedDown, hk, hw, hd, hc]

/-- The reply slot after a report of a head: an owed hold REPLY is sent when the list empties (R127). -/
def State.replyAfterReport (h : Head) (reported : Point) : Option Reply :=
  if (s.head h).inFlight.tail = [] ∧ (s.head h).state = .held ∧ (s.head h).holdReplyOwed = true then
    s.replyWith .ok (.holdHead (s.head h).holdCause ⟨reported, true⟩)
  else s.out.replySlot

/-- A head's record after a report, before an emptied list is seen to (R92, R94). -/
def HeadRecord.oldestGone (reported : Point) (hd : HeadRecord) : HeadRecord :=
  { hd with
    inFlight := hd.listAfter, reported := ⟨reported, true⟩
    overdueRunning := !hd.inFlight.tail.isEmpty && hd.state != .fault }

theorem HeadRecord.removeOldest_reported (hd : HeadRecord) (reported : Point) :
    ({ hd with reported := ⟨reported, true⟩ }).removeOldest = hd.oldestGone reported := HeadRecord.removeOldest_eq _

/-- The list is empty after a report when the oldest record was the only one. -/
theorem HeadRecord.listAfter_eq_nil {hd : HeadRecord} : hd.listAfter = [] ↔ hd.inFlight.tail = [] := by
  rw [HeadRecord.listAfter]
  split <;> simp_all

/-- An emptied list is seen to after a report, as an update of the state (R95). -/
theorem State.seeEmptied_eq (h : Head) :
    (if s.listEmpty h then s.listEmptied h else s) =
      (s.withReply (if (s.head h).inFlight = [] then s.replyEmptied h else s.out.replySlot)).modHead h
        fun hd => if hd.inFlight = [] then hd.emptied else hd := by
  simp only [State.listEmpty, List.isEmpty_iff]
  split
  · next he =>
    rw [State.listEmptied_eq]
    exact State.modHead_congr _ h (if_pos he).symm
  · next he => exact (State.modHead_self s h _ (if_neg he)).symm

/-- The reply slot after a report, in the words of the state before it. -/
theorem State.replyEmptied_afterReport (h : Head) (f : HeadRecord → HeadRecord) {u : State} (reported : Point)
    (hf : (f (s.head h)).inFlight = (s.head h).listAfter ∧ (f (s.head h)).state = (s.head h).state ∧
      (f (s.head h)).holdReplyOwed = (s.head h).holdReplyOwed ∧ (f (s.head h)).holdCause = (s.head h).holdCause ∧
      (f (s.head h)).reported = ⟨reported, true⟩)
    (hu : u.head h = s.head h ∧ u.mgmt = s.mgmt ∧ u.out.replySlot = s.out.replySlot) :
    (if ((u.modHead h f).head h).inFlight = [] then (u.modHead h f).replyEmptied h else u.out.replySlot) =
      s.replyAfterReport h reported := by
  obtain ⟨hl, hs, ho, hc, hr⟩ := hf
  obtain ⟨hh, hm, hv⟩ := hu
  simp only [State.replyEmptied, State.replyAfterReport, State.replyWith, State.head_modHead_same, hh, hl, hs, ho, hc,
    hr, HeadRecord.listAfter_eq_nil, State.modHead_mgmt, State.modHead_out, hm, hv]
  by_cases he : (s.head h).inFlight.tail = [] <;> simp [he]

/-- The step-down's DERATE_CHANGE does not depend on what else has happened to the head's record. -/
theorem State.derateNoted_modHead (h : Head) (r : InFlight) (f : HeadRecord → HeadRecord)
    (hf : (f (s.head h)).stepsDown r = (s.head h).stepsDown r ∧ (f (s.head h)).monitor = (s.head h).monitor) :
    (s.modHead h f).derateNoted h r = (s.derateNoted h r).modHead h f := by
  obtain ⟨hs, hm⟩ := hf
  simp only [State.derateNoted, State.head_modHead_same, hs, hm]
  rfl

@[simp] theorem Outbound.raise_replySlot (o : Outbound) (cls : EventClass) (d : Details) :
    (o.raise cls d).replySlot = o.replySlot := by
  simp only [Outbound.raise]
  split
  · rfl
  · split <;> rfl

theorem State.derateNoted_replySlot (h : Head) (r : InFlight) :
    (s.derateNoted h r).out.replySlot = s.out.replySlot := by
  show (if _ then _ else _ : Outbound).replySlot = _
  split
  · exact Outbound.raise_replySlot s.out _ _
  · rfl

/-- A matching HALTED as an update of the state (R94). -/
theorem State.takeHalted_eq (h : Head) (r : InFlight) (k : Nat) (stop : Point) :
    s.takeHalted h r k stop =
      ((s.recordGone h r k .halted (some k)).withReply (s.replyAfterReport h stop)).modHead h fun hd =>
        { hd.reportTaken stop with chainEnd := if hd.inFlight.tail = [] then ⟨stop, true⟩ else hd.chainEnd } := by
  simp only [State.takeHalted, State.takeReport_eq, State.listEmpty, State.head_modHead_same,
    HeadRecord.removeOldest_reported, List.isEmpty_iff]
  rw [show (s.recordGone h r k .halted (some k)).head h = s.head h from rfl]
  have gone : (((s.head h).oldestGone stop).inFlight = [] ↔ (s.head h).inFlight.tail = []) := HeadRecord.listAfter_eq_nil
  split
  · next he =>
    have hr := State.replyEmptied_afterReport s h (fun hd => (hd.oldestGone stop).endAtReported)
      (u := s.recordGone h r k .halted (some k)) stop ⟨rfl, rfl, rfl, rfl, rfl⟩ ⟨rfl, rfl, rfl⟩
    rw [if_pos (by rw [State.head_modHead_same]; exact he)] at hr
    rw [State.listEmptied_eq, State.modHead_modHead, State.modHead_withReply, State.modHead_modHead, hr]
    refine State.modHead_congr (State.withReply _ _) h ?_
    show (((s.head h).oldestGone stop).endAtReported).emptied = { (s.head h).reportTaken stop with
      chainEnd := if (s.head h).inFlight.tail = [] then ⟨stop, true⟩ else (s.head h).chainEnd }
    simp [HeadRecord.oldestGone, HeadRecord.endAtReported, HeadRecord.reportTaken, HeadRecord.afterReport,
      HeadRecord.emptied, gone.mp he, bne]
  · next he =>
    have he : (s.head h).inFlight.tail ≠ [] := fun e => he (gone.mpr e)
    rw [State.replyAfterReport, if_neg fun e => he e.1]
    refine State.modHead_congr (s.recordGone h r k .halted (some k)) h ?_
    show (s.head h).oldestGone stop = { (s.head h).reportTaken stop with
      chainEnd := if (s.head h).inFlight.tail = [] then ⟨stop, true⟩ else (s.head h).chainEnd }
    simp [HeadRecord.oldestGone, HeadRecord.reportTaken, HeadRecord.afterReport, he]

/-- An emptied list is seen to after a report, in the words of the state before it. -/
theorem State.seeEmptied_afterReport (h : Head) (f : HeadRecord → HeadRecord) {u : State} (reported : Point)
    (hf : (f (s.head h)).inFlight = (s.head h).listAfter ∧ (f (s.head h)).state = (s.head h).state ∧
      (f (s.head h)).holdReplyOwed = (s.head h).holdReplyOwed ∧ (f (s.head h)).holdCause = (s.head h).holdCause ∧
      (f (s.head h)).reported = ⟨reported, true⟩)
    (hu : u.head h = s.head h ∧ u.mgmt = s.mgmt ∧ u.out.replySlot = s.out.replySlot) :
    (if (u.modHead h f).listEmpty h then (u.modHead h f).listEmptied h else u.modHead h f) =
      (u.withReply (s.replyAfterReport h reported)).modHead h fun hd =>
        if (f hd).inFlight = [] then (f hd).emptied else f hd := by
  rw [State.seeEmptied_eq, State.modHead_withReply, State.modHead_modHead, State.modHead_out,
    State.replyEmptied_afterReport s h f reported hf hu]

theorem State.recordGone_kept (h : Head) (r : InFlight) (k : Nat) (outcome : StrokeOutcome) (cells : Option Nat) :
    (s.recordGone h r k outcome cells).head h = s.head h ∧ (s.recordGone h r k outcome cells).mgmt = s.mgmt ∧
      (s.recordGone h r k outcome cells).out.replySlot = s.out.replySlot := ⟨rfl, rfl, rfl⟩

theorem State.derateNoted_kept (h : Head) (r : InFlight) :
    (s.derateNoted h r).head h = s.head h ∧ (s.derateNoted h r).mgmt = s.mgmt ∧
      (s.derateNoted h r).out.replySlot = s.out.replySlot := ⟨rfl, rfl, s.derateNoted_replySlot h r⟩

/-- The step-down after a report, in the words of the state before it (R107). -/
theorem State.stepDown_modHead (h : Head) (r : InFlight) (reported : Point) :
    (s.modHead h (HeadRecord.oldestGone reported)).stepDown h r =
      (s.derateNoted h r).modHead h fun hd => { hd.oldestGone reported with monitor := hd.steppedDown r } := by
  rw [State.stepDown_eq, State.derateNoted_modHead _ _ _ _ ⟨rfl, rfl⟩, State.modHead_modHead]
  rfl

/-- A matching COMPLETE as an update of the state (R92). -/
theorem State.takeComplete_eq (h : Head) (r : InFlight) :
    s.takeComplete h r =
      (((s.recordGone h r (r.pathLength + 1) .complete none).derateNoted h r).withReply
        (s.replyAfterReport h r.stroke.finish)).modHead h fun hd =>
          { hd.reportTaken r.stroke.finish with monitor := hd.steppedDown r } := by
  have gone := s.recordGone_kept h r (r.pathLength + 1) .complete none
  simp only [State.takeComplete, HeadRecord.removeOldest_reported, State.takeReport_eq]
  generalize s.recordGone h r (r.pathLength + 1) .complete none = u at gone ⊢
  obtain ⟨head, mgmt, slot⟩ := u.derateNoted_kept h r
  rw [State.stepDown_modHead, State.seeEmptied_afterReport s h _ r.stroke.finish ⟨rfl, rfl, rfl, rfl, rfl⟩
    ⟨head.trans gone.1, mgmt.trans gone.2.1, slot.trans gone.2.2⟩]
  refine State.modHead_congr _ h ?_
  generalize ((u.derateNoted h r).withReply _).head h = hd
  have empty : (hd.oldestGone r.stroke.finish).inFlight = [] ↔ hd.inFlight.tail = [] := HeadRecord.listAfter_eq_nil
  simp only [empty]
  split
  · next he =>
    simp [HeadRecord.oldestGone, HeadRecord.reportTaken, HeadRecord.afterReport, HeadRecord.emptied, he, bne]
  · next he => simp [HeadRecord.oldestGone, HeadRecord.reportTaken, HeadRecord.afterReport, he]

end

end Sys2Proof.Machine

/-! ### Fault entry, issue, refusal, flush and resolution as updates of the state -/

namespace Sys2Proof.Machine

section
variable (s : State)

/-! #### A change of a record and the other updates -/

theorem State.modHead_withDrive (h : Head) (f : HeadRecord → HeadRecord) (v : DrivePort) :
    (s.modHead h f).withDrive v = (s.withDrive v).modHead h f := rfl

theorem State.modHead_withWaitList (h : Head) (f : HeadRecord → HeadRecord) (v : List WaitEntry) :
    (s.modHead h f).withWaitList v = (s.withWaitList v).modHead h f := rfl

theorem State.modHead_withOccasions (h : Head) (f : HeadRecord → HeadRecord) (v : List Occasion) :
    (s.modHead h f).withOccasions v = (s.withOccasions v).modHead h f := rfl

/-! #### Halt requests and fault entry (R89, R131) -/

/-- A head's record after a halt request (R89). -/
def HeadRecord.halting (hd : HeadRecord) : HeadRecord :=
  { hd with haltOutstanding := hd.haltOutstanding || !hd.inFlight.isEmpty }

/-- The drive port after a halt request for a head whose flag is as given (R89). -/
def State.driveHalted (h : Head) (outstanding : Bool) : DrivePort :=
  if outstanding || s.drive.queue.contains (.halt h) then s.drive else { s.drive with queue := s.drive.queue ++ [.halt h] }

/-- A halt request is its head's flag and the drive transmit queue (R89). -/
theorem State.requestHalt_eq (h : Head) :
    s.requestHalt h = (s.withDrive (s.driveHalted h (s.head h).haltOutstanding)).modHead h HeadRecord.halting := by
  rw [State.requestHalt, State.driveHalted]
  cases ho : (s.head h).haltOutstanding with
  | true => exact (State.modHead_self s h _ (HeadRecord.haltOutstanding_self (by simp [ho]))).symm
  | false =>
    have queued : (if s.drive.queue.contains (.halt h) then s else s.queueDrive (.halt h)) =
        s.withDrive (if s.drive.queue.contains (.halt h) then s.drive
          else { s.drive with queue := s.drive.queue ++ [.halt h] }) := by
      split <;> rfl
    simp only [queued, Bool.false_or, Bool.false_eq_true, if_false]
    split
    · next he =>
      exact (State.modHead_self (s.withDrive _) h _ (HeadRecord.haltOutstanding_self (by
        simp only [State.head_withDrive, ho, he]; rfl))).symm
    · next he =>
      refine State.modHead_congr (s.withDrive _) h ?_
      simp [HeadRecord.halting, he]

/-- What a fault entry does beside its head's record (R131). -/
abbrev State.faultAround (h : Head) (cause : FaultCause) (issue : Option Byte) (code : Byte) : State :=
  ((((s.withDrive (s.driveHalted h (s.head h).haltOutstanding)).withWaitList (s.waitsWithout h)).withOccasions
    (s.occasions ++ s.passAfterWait h)).withReply
    (if (s.head h).holdReplyOwed then s.replyWith .faulted (.holdFaulted cause) else s.out.replySlot)).raise
    (.ofHead .headFault h) (.headFault cause issue code)

/-- A fault entry as an update of the state (R131). -/
theorem State.enterFault_eq (h : Head) (cause : FaultCause) (issue : Option Byte) (code : Byte) :
    s.enterFault h cause issue code =
      (s.faultAround h cause issue code).modHead h (HeadRecord.faulted cause issue code) := by
  have onlyFlag (A : HeadRecord → HeadRecord) (hA : (A (s.head h)).haltOutstanding = (s.head h).haltOutstanding) :
      (s.modHead h A).requestHalt h =
        (s.withDrive (s.driveHalted h (s.head h).haltOutstanding)).modHead h fun hd => (A hd).halting := by
    rw [State.requestHalt_eq, State.head_modHead_same, hA, State.modHead_withDrive, State.modHead_modHead]
    rfl
  simp only [State.enterFault]
  rw [onlyFlag _ rfl, State.modHead_modHead, State.leaveWait_eq, State.modHead_withWaitList, State.modHead_withOccasions,
    State.payHold_eq, State.modHead_withReply, State.modHead_modHead, State.modHead_raise, State.head_modHead_same]
  rfl

/-! #### Flush, HELD, OFF and refusal (R33, R71) -/

/-- The flush of one queue as an update of the state (R33, R52). -/
theorem State.flush_eq (h : Head) :
    s.flush h = ((s.withWaitList (s.waitsWithout h)).withOccasions (s.occasions ++ s.passAfterWait h)).modHead h
      fun hd => { hd with queue := [] } := by
  rw [State.flush, State.leaveWait_eq]; rfl

/-- The entry of HELD as an update of the state (R52, R117). -/
theorem State.enterHeld_eq (h : Head) (cause : HoldCause) :
    s.enterHeld h cause =
      ((s.withWaitList (s.waitsWithout h)).withOccasions (s.occasions ++ s.passAfterWait h)).modHead h
        fun hd => { hd with state := .held, holdCause := some cause } := by
  rw [State.enterHeld, State.leaveWait_eq]; rfl

/-- The entry of OFF as an update of the state (R52). -/
theorem State.enterOff_eq (h : Head) :
    s.enterOff h =
      ((s.withWaitList (s.waitsWithout h)).withOccasions (s.occasions ++ s.passAfterWait h)).modHead h
        fun hd => { hd with state := .off, holdCause := none } := by
  rw [State.enterOff, State.leaveWait_eq]; rfl

/-- A head's record after the refusal of its front stroke (R71). -/
def HeadRecord.strokeRefused (hd : HeadRecord) : HeadRecord :=
  { hd with queue := hd.queue.tail, state := .held, holdCause := some .refused }

/-- A refusal as an update of the state (R71). -/
theorem State.refuseStroke_eq (h : Head) (q : QueuedStroke) (reason : RefusalReason) :
    s.refuseStroke h q reason =
      (((s.withWaitList (s.waitsWithout h)).raise (.ofHead .strokeRefused h)
        (.strokeRefused q.stroke.tag reason)).withOccasions (s.occasions ++ s.kept [.pass (some h)])).modHead h
        HeadRecord.strokeRefused := by
  rw [State.refuseStroke, State.raiseOccasion_eq]; rfl

/-! #### Issue (R80) -/

/-- A head's record after the issue of its front stroke (R80, R86). -/
def HeadRecord.strokeIssued (q : QueuedStroke) (r : InFlight) (hd : HeadRecord) : HeadRecord :=
  { hd with
    state := if hd.state = .ready then .cutting else hd.state
    queue := hd.queue.tail
    chainEnd := ⟨q.stroke.finish, true⟩
    issueCounter := hd.issueCounter + 1
    inFlight := hd.inFlight ++
      [if hd.inFlight = [] then { r with overdueLimit := some (overdueLimit hd.timerSettings r) } else r]
    gapTimer := if hd.inFlight = [] then .running hd.timerSettings.gapLimit else hd.gapTimer
    overdueRunning := if hd.inFlight = [] then hd.state != .fault else hd.overdueRunning }

/-- A record joins the list of a head (R86, R112 to R114). -/
theorem HeadRecord.append_eq (hd : HeadRecord) (r : InFlight) :
    hd.append r = { hd with
      inFlight := hd.inFlight ++
        [if hd.inFlight = [] then { r with overdueLimit := some (overdueLimit hd.timerSettings r) } else r]
      gapTimer := if hd.inFlight = [] then .running hd.timerSettings.gapLimit else hd.gapTimer
      overdueRunning := if hd.inFlight = [] then hd.state != .fault else hd.overdueRunning } := by
  rw [HeadRecord.append]
  split
  · next he => simp [HeadRecord.startOldest, he]
  · next he => simp [he]

/-- QUEUE_LOW at an issue: the depth falls from the low-water mark (R32). -/
abbrev State.queueLowNoted (h : Head) (q : QueuedStroke) : State :=
  s.withOut (if (s.head h).settings.lowWater = (s.head h).queue.length then
    s.out.raise (.ofHead .queueLow h) (.queueLow q.stroke.tag (s.head h).issueCounter)
  else s.out)

/-- From a queue with a front stroke, the depth crosses the mark exactly when it stands at it (R32). -/
theorem crossesLowWater_iff (mark depth : Nat) (h : 0 < depth) : crossesLowWater mark depth = true ↔ mark = depth := by
  simp only [crossesLowWater, Bool.and_eq_true, decide_eq_true_eq]
  omega

/-- What an issue does beside its head's record (R80). -/
abbrev State.issuedAround (h : Head) (q : QueuedStroke) (rating : Rating) (fp : List CellRef) : State :=
  ((((s.queueLowNoted h q).withCells (CutMap.modifyAll s.block.top (Cell.claimBy h) fp s.cells)).withWaitList
    (s.waitsWithout h)).withDrive
    { s.drive with queue := s.drive.queue ++ [(buildRecord s h q rating).issueFrame h] }).withOccasions
    (s.occasions ++ if (s.head h).state = .ready then s.kept [.one h] else [])

/-- A head in READY enters CUTTING, as an update of the state (R60, R130). -/
theorem State.enterCutting_eq (h : Head) :
    s.enterCutting h = (s.withOccasions (s.occasions ++
      if (s.head h).state = .ready then s.kept [.one h] else [])).modHead h
        fun hd => { hd with state := if hd.state = .ready then .cutting else hd.state } := by
  rw [State.enterCutting]
  split
  · next hr =>
    rw [State.raiseOccasion_eq, State.modHead_withOccasions]
    refine State.modHead_congr (s.withOccasions _) h ?_
    simp [hr]
  · next hr =>
    rw [List.append_nil]
    exact (State.modHead_self s h _ (by simp [hr])).symm

/-- The test for QUEUE_LOW after other changes of the head's record (R32). -/
theorem State.testQueueLow_modHead (h : Head) (q : QueuedStroke) (rating : Rating) (f : HeadRecord → HeadRecord)
    (m : CutMap) (hf : (f (s.head h)).settings = (s.head h).settings) (hq : (s.head h).queue ≠ []) :
    ((s.withCells m).modHead h f).testQueueLow h (buildRecord s h q rating) (s.head h).queue.length =
      ((s.queueLowNoted h q).withCells m).modHead h f := by
  have depth : 0 < (s.head h).queue.length := List.length_pos_iff.mpr hq
  simp only [State.testQueueLow, State.queueLowNoted, State.head_modHead_same, State.head_withCells, hf,
    crossesLowWater_iff _ _ depth]
  split <;> rfl

/-- An issue as an update of the state (R80). -/
theorem State.issueStroke_eq (h : Head) (q : QueuedStroke) (rating : Rating) (fp : List CellRef)
    (hq : (s.head h).queue ≠ []) :
    s.issueStroke h q rating fp =
      (s.issuedAround h q rating fp).modHead h (HeadRecord.strokeIssued q (buildRecord s h q rating)) := by
  simp only [State.issueStroke, State.modCells]
  rw [State.testQueueLow_modHead s h q rating _ _ rfl hq, State.dropWait, State.modHead_withWaitList,
    State.modHead_modHead, State.queueDrive, State.modHead_withDrive, State.enterCutting_eq, State.modHead_withOccasions,
    State.modHead_modHead, State.head_modHead_same]
  simp only [HeadRecord.append_eq]
  rfl

/-! #### Resolution (R137) -/

/-- Kept occasions are kept one by one (R62). -/
theorem State.kept_append (a b : List Occasion) : s.kept (a ++ b) = s.kept a ++ s.kept b := by
  rw [State.kept, State.kept, State.kept]
  split <;> rfl

/-- The resolution of some records, oldest first, beside their head's list (R137). -/
abbrev State.recordsResolved (h : Head) (l : List InFlight) : State :=
  (((s.withCells (l.foldl (fun m r => s.cellsReleased r (s.cellsResolved r m)) s.cells)).withOccasions
    (s.occasions ++ s.kept (l.map fun _ => .pass none))).withOut
    { s.out with notices := s.out.notices ++ l.flatMap fun r => r.notices .unresolved (some r.resolvedCells) }).withDrive
    { s.drive with queue := s.drive.queue.filter fun f => l.all fun r => !f.isIssueOf h r.issue }

/-- The resolution of one record as an update of the state (R137). -/
theorem State.resolve_eq (h : Head) (r : InFlight) :
    s.resolve h r = (s.recordsResolved h [r]).modHead h fun hd => { hd with inFlight := hd.inFlight.tail } := by
  simp only [State.resolve, State.resolveCells_eq, State.releaseClaims_eq, State.notice_eq, State.withdrawIssue]
  simp only [State.recordsResolved, List.foldl_cons, List.foldl_nil, List.map_cons, List.map_nil, List.flatMap_cons,
    List.flatMap_nil, List.append_nil, List.all_cons, List.all_nil, Bool.and_true]
  rfl

/-- The resolution of records one after another as an update of the state (R137). -/
theorem State.foldl_resolve (h : Head) (l : List InFlight) :
    l.foldl (fun s r => s.resolve h r) s =
      (s.recordsResolved h l).modHead h fun hd => { hd with inFlight := hd.inFlight.drop l.length } := by
  induction l generalizing s with
  | nil =>
    have same : s.recordsResolved h [] = s := by
      simp only [State.recordsResolved, List.foldl_nil, List.map_nil, List.flatMap_nil, List.append_nil, List.all_nil,
        List.filter_eq_self.mpr (fun _ _ => rfl), State.kept, ite_self]
      rfl
    rw [same]
    exact (State.modHead_self s h _ rfl).symm
  | cons r l ih =>
    have kept : s.kept ((r :: l).map fun _ => .pass none) = s.kept [.pass none] ++ s.kept (l.map fun _ => .pass none) :=
      s.kept_append [.pass none] _
    have frames : (s.drive.queue.filter fun f => !f.isIssueOf h r.issue).filter (fun f => l.all fun r => !f.isIssueOf h r.issue) =
        s.drive.queue.filter fun f => (r :: l).all fun r => !f.isIssueOf h r.issue := by
      rw [List.filter_filter]
      exact List.filter_congr fun f _ => Bool.and_comm _ _
    have both : (s.recordsResolved h [r]).recordsResolved h l = s.recordsResolved h (r :: l) := by
      simp only [State.recordsResolved, List.foldl_cons, List.foldl_nil, List.flatMap_cons, List.flatMap_nil,
        List.append_nil, ← frames, kept, ← List.append_assoc, List.all_cons (l := []), List.all_nil, Bool.and_true]
      rfl
    have dropped (hd : HeadRecord) : hd.inFlight.tail.drop l.length = hd.inFlight.drop (r :: l).length := by
      rw [List.drop_tail, List.length_cons]
    rw [List.foldl_cons, ih, State.resolve_eq]
    have commutes (u : State) (f : HeadRecord → HeadRecord) :
        (u.modHead h f).recordsResolved h l = (u.recordsResolved h l).modHead h f := rfl
    rw [commutes, both, State.modHead_modHead]
    simp only [dropped]

end

end Sys2Proof.Machine

/-! ### What a step can do: the moves of the part

Every step is a chain of moves of the list below, with at most one change of the block among them; so a law that each
move keeps is kept by every step. -/

namespace Sys2Proof.Machine

/-- The runs, the clean count and the level `m` after `m₀`: each no higher than before, or below its debounce, its
step-down count or level 3 (R104 to R107, R109). -/
abbrev Monitor.Within (ms : MonitorSettings) (m₀ m : Monitor) : Prop :=
  (m.derate ≤ m₀.derate ∨ m.derate ≤ 3) ∧ (m.cleanCount ≤ m₀.cleanCount ∨ m.cleanCount < ms.stepDownCount) ∧
    (m.highRun ≤ m₀.highRun ∨ m.highRun < ms.highDebounce) ∧ (m.lowRun ≤ m₀.lowRun ∨ m.lowRun < ms.lowDebounce) ∧
    (m.stallRun ≤ m₀.stallRun ∨ m.stallRun < ms.stallDebounce)

/-- The list of a head after a sample: as it was, or with the saw-high flag of its oldest record set (R104). -/
abbrev HeadRecord.Seen (hd : HeadRecord) (l : List InFlight) : Prop :=
  l = hd.inFlight ∨ l = hd.markSawHigh.inFlight

/-- A change of one head's record and of nothing else. -/
inductive RecordMove (h : Head) (hd : HeadRecord) : HeadRecord → Prop
  | accepted (q : QueuedStroke) (own : q.stroke.head = h) (room : hd.queue.length < 32) :
      RecordMove h hd { hd with queue := hd.queue ++ [q] }
  | alive : RecordMove h hd hd.signOfLife
  | furtherFault (state : hd.state = .fault) :
      RecordMove h hd { hd with furtherFaults := min 15 (hd.furtherFaults + 1) }
  | gapStopped (state : hd.state = .off ∨ hd.state = .fault) : RecordMove h hd { hd with gapTimer := .stopped }
  | overdueStopped (state : hd.state = .off ∨ hd.state = .fault) : RecordMove h hd { hd with overdueRunning := false }
  | monitored (m : Monitor) (l : List InFlight) (within : Monitor.Within hd.monitorSettings hd.monitor m)
      (seen : hd.Seen l) : RecordMove h hd { hd with monitor := m, inFlight := l }
  | hardened (state : hd.state = .held) : RecordMove h hd { hd with holdCause := some .hard }
  | released (state : hd.state = .held) : RecordMove h hd { hd with state := hd.releasedTo, holdCause := none }
  | enabled (state : hd.state = .off) : RecordMove h hd { hd with state := .ready }
  | settings (ops : SetHeadOps) (pass : settingsPass ops = true) :
      RecordMove h hd { hd with settings := settingsWritten ops }
  | monitorSettings (ops : SetMonitorOps) (pass : monitorPasses ops = true) :
      RecordMove h hd { hd with monitorSettings := monitorWritten ops }
  | timerSettings (ops : SetTimersOps) (pass : timersPass ops = true) :
      RecordMove h hd { hd with timerSettings := ⟨ops.gapLimit.toNat, ops.factor.toNat, ops.allowance.toNat⟩ }
  | placed (p : Point) (state : hd.state ≠ .fault) (idle : hd.inFlight = []) : RecordMove h hd (hd.placeAt p)
  | owing : RecordMove h hd { hd with holdReplyOwed := true }

/-- The record of a head as a fault finds it: a timer has run out, or a sample has moved its runs (R104, R109, R112,
R114). -/
inductive Ailing (hd : HeadRecord) : HeadRecord → Prop
  | intro (gap : GapTimer) (overdue : Bool) (m : Monitor) (l : List InFlight)
      (derate : m.derate ≤ hd.monitor.derate) (clean : m.cleanCount ≤ hd.monitor.cleanCount)
      (high : m.highRun ≤ hd.monitor.highRun + 1) (low : m.lowRun ≤ hd.monitor.lowRun + 1)
      (stall : m.stallRun ≤ hd.monitor.stallRun + 1) (seen : hd.Seen l) :
      Ailing hd { hd with gapTimer := gap, overdueRunning := overdue, monitor := m, inFlight := l }

/-- What the units do to the part, one act at a time, with what they have tested. -/
inductive Move (s : State) : State → Prop
  /-- Nothing of the block, the cut map, the heads and the wait list changes; frames may leave the front of the drive
  transmit queue, notices the done queue, and no occasion is kept while the block is INITIALISING. -/
  | aside {t : State} (block : t.block = s.block) (cells : t.cells = s.cells) (heads : t.heads = s.heads)
      (waitList : t.waitList = s.waitList) (queue : t.drive.queue <:+ s.drive.queue)
      (notices : t.out.notices.length ≤ s.out.notices.length)
      (occasions : s.block.state = .initialising → s.occasions = [] → t.occasions = []) : Move s t
  | record (h : Head) {hd : HeadRecord} (move : RecordMove h (s.head h) hd) : Move s (s.setHead h hd)
  | halting (h : Head) : Move s (s.requestHalt h)
  | waiting (h : Head) (fp : List CellRef) (admits : (s.head h).state.admits = true) (queued : (s.head h).queue ≠ []) :
      Move s (s.recordWait h fp)
  | flushed (h : Head) : Move s (s.flush h)
  | held (h : Head) (cause : HoldCause) (state : (s.head h).state = .ready ∨ (s.head h).state = .cutting) :
      Move s (s.enterHeld h cause)
  | off (h : Head) (state : (s.head h).TakesFaults) (idle : (s.head h).inFlight = []) : Move s (s.enterOff h)
  | refused (h : Head) (q : QueuedStroke) (rest : List QueuedStroke) (reason : RefusalReason)
      (front : (s.head h).queue = q :: rest) (admits : (s.head h).state.admits = true) :
      Move s (s.refuseStroke h q reason)
  | issued (h : Head) (q : QueuedStroke) (rest : List QueuedStroke) (rating : Rating) (fp : List CellRef)
      (front : (s.head h).queue = q :: rest) (verdict : s.verdict h q = .issue rating fp) :
      Move s (s.issueStroke h q rating fp)
  | completed (h : Head) (r : InFlight) (oldest : (s.head h).inFlight.head? = some r) : Move s (s.takeComplete h r)
  | stopped (h : Head) (r : InFlight) (k : Nat) (stop : Point) (oldest : (s.head h).inFlight.head? = some r) :
      Move s (s.takeHalted h r k stop)
  | faulted (h : Head) {hd : HeadRecord} (cause : FaultCause) (issue : Option Byte) (code : Byte)
      (state : (s.head h).TakesFaults) (ailing : Ailing (s.head h) hd) (coded : code ≠ 0 ↔ cause = .driveFault) :
      Move s ((s.setHead h hd).enterFault h cause issue code)
  | cleared (h : Head) (p : Point) (state : (s.head h).state = .fault) :
      Move s ((s.resolveAll h).modHead h (HeadRecord.restore p))
  | programmed (field : SpanField) (r : SourceRecord) (refs : List CellRef) (state : s.block.state = .loaded)
      (inMap : ∀ c ∈ refs, c.inMap s.block = true) : Move s (s.modCells (Cell.program field r) refs)

/-- A change of the block record or of the whole part. -/
inductive BlockMove (s : State) : State → Prop
  | begun (ops : LoadBlockOps) (pass : loadPasses ops = true) (idle : s.anyInFlight = false) :
      BlockMove s (s.beginBlock (loadRecord ops))
  | initialised (state : s.block.state = .initialising) : BlockMove s (s.withBlock { s.block with state := .loaded })
  | unloading (state : s.block.state ≠ .noBlock) (idle : s.anyInFlight = false) :
      BlockMove s (s.withBlock { s.block with unloadVisit := true })
  | unloaded (visit : s.block.unloadVisit = true) : BlockMove s ((s.withBlock .reset).withCells [])
  | resetLow : BlockMove s (resetPinLowEffect s)
  | reset {t : State} (block : t.block = .reset) (cells : t.cells = []) (heads : t.heads = State.reset.heads)
      (waitList : t.waitList = []) (occasions : t.occasions = []) (queue : t.drive.queue = [])
      (notices : t.out.notices = []) : BlockMove s t

/-- Moves one after another. -/
abbrev Moves : State → State → Prop := Chain Move

/-- Moves with at most one change of the block among them. -/
def Reaches (s t : State) : Prop := ∃ u v, Moves s u ∧ (u = v ∨ BlockMove u v) ∧ Moves v t

theorem Moves.trans {s u t : State} (a : Moves s u) (b : Moves u t) : Moves s t := Chain.trans a b

theorem Moves.reaches {s t : State} (m : Moves s t) : Reaches s t := ⟨s, s, .refl, .inl rfl, m⟩

theorem BlockMove.reaches {s t : State} (b : BlockMove s t) : Reaches s t := ⟨s, t, .refl, .inr b, .refl⟩

theorem Reaches.before {s u t : State} (m : Moves s u) (r : Reaches u t) : Reaches s t := by
  obtain ⟨v, w, hv, hb, hw⟩ := r
  exact ⟨v, w, m.trans hv, hb, hw⟩

theorem Reaches.then {s u t : State} (r : Reaches s u) (m : Moves u t) : Reaches s t := by
  obtain ⟨v, w, hv, hb, hw⟩ := r
  exact ⟨v, w, hv, hb, hw.trans m⟩

/-- A law that every move keeps is kept by a chain of moves. -/
theorem Moves.keeps {P : State → Prop} (hm : ∀ s t, Move s t → P s → P t) {s t : State} (m : Moves s t) (hs : P s) :
    P t := by
  induction m with
  | refl => exact hs
  | tail _ hmove ih => exact hm _ _ hmove ih

/-- A law that every move and every change of the block keeps. -/
theorem Reaches.keeps {P : State → Prop} (hm : ∀ s t, Move s t → P s → P t) (hb : ∀ s t, BlockMove s t → P s → P t)
    {s t : State} (r : Reaches s t) (hs : P s) : P t := by
  obtain ⟨u, v, hu, hc, hv⟩ := r
  have hu := hu.keeps hm hs
  obtain rfl | hc := hc
  · exact hv.keeps hm hu
  · exact hv.keeps hm (hb _ _ hc hu)

/-! #### Moves aside -/

section
variable (s : State)

theorem Moves.modHead (h : Head) (f : HeadRecord → HeadRecord) (move : RecordMove h (s.head h) (f (s.head h))) :
    Moves s (s.modHead h f) := .single (.record h move)

theorem Moves.raise (cls : EventClass) (d : Details) : Moves s (s.raise cls d) :=
  .single (.aside rfl rfl rfl rfl List.suffix_rfl (by
    simp only [State.raise, State.withOut, Outbound.raise]
    split
    · exact Nat.le_refl _
    · split <;> exact Nat.le_refl _) fun _ ho => ho)

theorem Moves.answer (status : Status) (results : Results) : Moves s (s.answer status results) :=
  .single (.aside (by simp) (by simp) (by simp) (by simp) (by simp) (by simp) (by simp))

theorem Moves.refuse (status : Status) : Moves s (s.refuse status) := .answer s status .none

theorem Moves.raiseOccasion (o : Occasion) : Moves s (s.raiseOccasion o) :=
  .single (.aside (by simp) (by simp) (by simp) (by simp) (by simp) (by simp) fun hi ho => by
    rw [State.raiseOccasion, if_pos hi, ho])

theorem Moves.withMgmt (v : Management) : Moves s (s.withMgmt v) :=
  .single (.aside rfl rfl rfl rfl List.suffix_rfl (Nat.le_refl _) fun _ ho => ho)

theorem Moves.withPending (v : List Instr) : Moves s (s.withPending v) :=
  .single (.aside rfl rfl rfl rfl List.suffix_rfl (Nat.le_refl _) fun _ ho => ho)

theorem Moves.setStop (level : Bool) : Moves s (s.setStop level) :=
  .single (.aside rfl rfl rfl rfl List.suffix_rfl (Nat.le_refl _) fun _ ho => ho)

theorem Moves.hear (more : List Signal) (x : Signal) : Moves s ((s.withArriving more).hear x) :=
  .single (.aside (by simp) (by simp) (by simp) (by simp) (by simp) (by simp) (by simp))

theorem Moves.endFrame (link : Link) (error : LinkError) : Moves s (s.endFrame link error) := by
  have counted : Moves s ((s.hunt link).withCounters ((s.hunt link).counters.bump link error)) :=
    .single (.aside rfl rfl rfl rfl List.suffix_rfl (Nat.le_refl _) fun _ ho => ho)
  exact counted.trans (Moves.raise _ _ _)

/-- The outputs that follow a command take frames from their queues and change nothing else. -/
theorem Moves.settle : Moves s (settle s) :=
  .single (.aside (by simp) (by simp) (by simp) (by simp) (by
    rw [settle_drive, State.startDrive]
    split
    · next hq => simp [hq]
    · exact List.suffix_rfl
    · exact List.suffix_rfl) (by rw [Machine.settle, State.arbitrate_noticeCount]; simp) (by simp))

theorem Moves.withOccasions (o : Occasion) (rest : List Occasion) (h : s.occasions = o :: rest) :
    Moves s (s.withOccasions rest) :=
  .single (.aside rfl rfl rfl rfl List.suffix_rfl (Nat.le_refl _) fun _ ho => by simp [h] at ho)

end

end Sys2Proof.Machine

/-! ### Every step is a chain of moves -/

namespace Sys2Proof.Machine

section
variable (s : State)

/-! #### Faults, reports and samples -/

/-- A record that a fault finds as it was. -/
theorem Ailing.same (hd : HeadRecord) : Ailing hd hd :=
  .intro hd.gapTimer hd.overdueRunning hd.monitor hd.inFlight (Nat.le_refl _) (Nat.le_refl _) (Nat.le_succ _)
    (Nat.le_succ _) (Nat.le_succ _) (.inl rfl)

/-- A fault handed to head control, for a record just changed: a fault entry, a further fault, or nothing in OFF (R131,
R132). -/
theorem Moves.handFault (h : Head) {hd : HeadRecord} (cause : FaultCause) (issue : Option Byte) (code : Byte)
    (ailing : Ailing (s.head h) hd) (coded : code ≠ 0 ↔ cause = .driveFault)
    (alone : (s.head h).state = .off ∨ (s.head h).state = .fault → Moves s (s.setHead h hd)) :
    Moves s ((s.setHead h hd).handFault h cause issue code) := by
  have hs : ((s.setHead h hd).head h).state = (s.head h).state := by
    rw [State.head_setHead_same]; cases ailing; rfl
  rw [State.handFault, hs]
  cases he : (s.head h).state with
  | off => exact alone (.inl he)
  | fault => exact (alone (.inr he)).tail (.record h (.furtherFault (hs.trans he)))
  | ready | cutting | held => exact .single (.faulted h cause issue code (by simp [HeadRecord.TakesFaults, he]) ailing coded)

/-- A fault of a head handed to head control as its record stands. -/
theorem Moves.handFault_same (h : Head) (cause : FaultCause) (issue : Option Byte) (code : Byte)
    (coded : code ≠ 0 ↔ cause = .driveFault) : Moves s (s.handFault h cause issue code) := by
  have same : s.setHead h (s.head h) = s := s.modHead_self h id rfl
  have m := Moves.handFault s h cause issue code (.same _) coded fun _ => same.symm ▸ .refl
  rwa [same] at m

theorem Moves.statusGapExpiry (h : Head) : Moves s (statusGapExpiryEffect h s) := by
  rw [statusGapExpiryEffect]
  cases (s.head h).gapTimer with
  | stopped => exact .refl
  | running limit =>
    exact .handFault s h .driveSilent _ 0 (.intro .stopped (s.head h).overdueRunning (s.head h).monitor _
      (Nat.le_refl _) (Nat.le_refl _) (Nat.le_succ _) (Nat.le_succ _) (Nat.le_succ _) (.inl rfl)) (by decide)
      fun hs => .single (.record h (.gapStopped hs))

theorem Moves.overdueExpiry (h : Head) : Moves s (overdueExpiryEffect h s) := by
  rw [overdueExpiryEffect]
  split
  · exact .handFault s h .overdue _ 0 (.intro (s.head h).gapTimer false (s.head h).monitor _
      (Nat.le_refl _) (Nat.le_refl _) (Nat.le_succ _) (Nat.le_succ _) (Nat.le_succ _) (.inl rfl)) (by decide)
      fun hs => .single (.record h (.overdueStopped hs))
  · exact .refl

theorem Moves.stopHeads : Moves s s.stopHeads := by
  have hand (u : State) (h : Head) : Moves u (u.handFault h .machineStop (u.head h).oldestIssue 0) :=
    .handFault_same u h _ _ 0 (by decide)
  exact (((hand s 0).trans (hand _ 1)).trans (hand _ 2)).trans (hand _ 3)

theorem Moves.complete (h : Head) (issue : Byte) : Moves s (completeEffect h issue s) := by
  rw [completeEffect]
  cases hm : (s.head h).matching issue with
  | none => exact (Moves.raise s _ _).tail (.record h .alive)
  | some r =>
    have oldest : (s.head h).inFlight.head? = some r := (Option.filter_eq_some_iff.mp hm).1
    exact .tail (.single (.completed h r oldest)) (.record h .alive)

theorem Moves.halted (h : Head) (issue : Byte) (k : Nat) (stop : Point) : Moves s (haltedEffect h issue k stop s) := by
  rw [haltedEffect]
  cases hm : (s.head h).matchingHalted issue k with
  | none => exact (Moves.raise s _ _).tail (.record h .alive)
  | some r =>
    have oldest : (s.head h).inFlight.head? = some r :=
      (Option.filter_eq_some_iff.mp (Option.filter_eq_some_iff.mp hm).1).1
    exact .tail (.single (.stopped h r k stop oldest)) (.record h .alive)

/-! #### Admission -/

theorem State.verdict_admits {h : Head} {q : QueuedStroke} (hv : s.verdict h q ≠ .waitNoBlock)
    (hv' : s.verdict h q ≠ .waitHead) : (s.head h).state.admits = true := by
  simp only [State.verdict] at hv hv'
  grind

theorem Moves.evaluate (h : Head) : Moves s (s.evaluate h) := by
  rw [State.evaluate]
  cases hq : (s.head h).queue with
  | nil => exact .refl
  | cons q rest =>
    have admits := s.verdict_admits (h := h) (q := q)
    have queued : (s.head h).queue ≠ [] := by simp [hq]
    simp only
    cases hv : s.verdict h q with
    | waitNoBlock | waitHead | waitInFlight | waitNotice => exact .refl
    | waitClaim fp | waitYield fp => exact .single (.waiting h fp (admits (by simp [hv]) (by simp [hv])) queued)
    | refuse reason => exact .single (.refused h q rest reason hq (admits (by simp [hv]) (by simp [hv])))
    | issue rating fp => exact .single (.issued h q rest rating fp hq hv)

theorem Moves.foldl_evaluate (l : List Head) : Moves s (l.foldl (fun s h => s.evaluate h) s) := by
  induction l generalizing s with
  | nil => exact .refl
  | cons h l ih => exact (Moves.evaluate s h).trans (ih _)

theorem Moves.evaluation (h : Head) : Moves s (evaluationEffect h s) := by
  rw [evaluationEffect]
  split
  · next rest ho =>
    split
    · exact (Moves.withOccasions s _ _ ho).trans (Moves.evaluate _ h)
    · exact .refl
  · exact .refl
  · exact .refl

theorem Moves.pass : Moves s (passEffect s) := by
  rw [passEffect]
  split
  · next rest ho => exact (Moves.withOccasions s _ _ ho).trans (Moves.foldl_evaluate _ _)
  · exact .refl
  · exact .refl

/-! #### Samples -/

/-- The runs after a drag sample of a class (R104). -/
def Monitor.dragged (cls : DragClass) (m : Monitor) : Monitor :=
  match cls with
  | .above => { m with highRun := m.highRun + 1, lowRun := 0 }
  | .below => { m with highRun := 0, lowRun := m.lowRun + 1 }
  | .within => { m with highRun := 0, lowRun := 0 }

/-- The list after a drag sample of a class (R104). -/
def HeadRecord.draggedList (cls : DragClass) (hd : HeadRecord) : List InFlight :=
  match cls with
  | .above => hd.markSawHigh.inFlight
  | .below | .within => hd.inFlight

/-- A drag sample moves the runs and the saw-high flag and nothing else of a head's record (R104). -/
theorem HeadRecord.drag_eq (cls : DragClass) (hd : HeadRecord) :
    hd.drag cls = { hd with monitor := hd.monitor.dragged cls, inFlight := hd.draggedList cls } := by
  cases cls
  case above =>
    simp only [HeadRecord.drag, HeadRecord.markSawHigh, HeadRecord.draggedList, Monitor.dragged]
    cases hd.inFlight <;> rfl
  all_goals rfl

theorem HeadRecord.seen_draggedList (cls : DragClass) (hd : HeadRecord) : hd.Seen (hd.draggedList cls) := by
  cases cls <;> simp [HeadRecord.draggedList, HeadRecord.Seen]

/-- A drag sample leaves a record as a fault may find it. -/
theorem Ailing.drag (cls : DragClass) (hd : HeadRecord) : Ailing hd (hd.drag cls) := by
  rw [HeadRecord.drag_eq]
  refine .intro hd.gapTimer hd.overdueRunning _ _ ?_ ?_ ?_ ?_ ?_ (hd.seen_draggedList cls) <;>
    cases cls <;> simp [Monitor.dragged]

/-- A fault of a head that takes faults, after a drag sample (R105, R106). -/
theorem Moves.dragFault (h : Head) (cls : DragClass) (cause : FaultCause) (issue : Option Byte)
    (takes : (s.head h).TakesFaults) (coded : (0 : Byte) ≠ 0 ↔ cause = .driveFault) :
    Moves s ((s.modHead h (HeadRecord.drag cls)).handFault h cause issue 0) :=
  .handFault s h cause _ 0 (.drag _ _) coded fun hs => by
    simp only [HeadRecord.TakesFaults] at takes; rcases hs with hs | hs <;> simp [hs] at takes

/-- A drag sample that leaves both runs below their debounces (R104). -/
theorem Moves.dragSample (h : Head) (cls : DragClass)
    (within : Monitor.Within (s.head h).monitorSettings (s.head h).monitor ((s.head h).monitor.dragged cls)) :
    Moves s (s.modHead h (HeadRecord.drag cls)) := by
  refine .modHead s h _ ?_
  rw [HeadRecord.drag_eq]
  exact .monitored _ _ within ((s.head h).seen_draggedList _)

/-- The high run at its debounce: the ladder is climbed, or the head faults (R105). -/
theorem Moves.highRunReached (h : Head) (r : InFlight) (takes : (s.head h).TakesFaults) :
    Moves s ((s.modHead h (HeadRecord.drag .above)).highRunReached h r) := by
  simp only [State.highRunReached, State.changeDerate, State.modHead_modHead, State.head_modHead_same,
    HeadRecord.drag_eq]
  split
  · next hd =>
    have climbed : Monitor.Within (s.head h).monitorSettings (s.head h).monitor
        { (s.head h).monitor.dragged .above with
          highRun := 0, derate := ((s.head h).monitor.dragged .above).derate + 1, cleanCount := 0 } := by
      refine ⟨.inr hd, ?_, ?_, ?_, ?_⟩ <;> simp [Monitor.dragged]
    exact Chain.trans (Moves.modHead s h _ (.monitored _ _ climbed ((s.head h).seen_draggedList .above)))
      (Moves.raise _ _ _)
  · have := Moves.dragFault s h .above .dragHigh (some r.issue) takes (by decide)
    simpa only [HeadRecord.drag_eq] using this

/-- The drag check of a head that takes faults is a chain of moves (R104 to R106). -/
theorem Moves.dragCheck (h : Head) (r : InFlight) (drag : Nat) (takes : (s.head h).TakesFaults) :
    Moves s (s.dragCheck h r drag) := by
  simp only [State.dragCheck, State.head_modHead_same]
  generalize dragClass r drag = cls
  cases cls with
  | above =>
    dsimp only
    split
    · exact .highRunReached s h r takes
    · next hb => exact .dragSample s h .above (by
        simp only [HeadRecord.drag_eq, Monitor.dragged, Nat.not_le] at hb
        simp [Monitor.Within, Monitor.dragged, hb])
  | below =>
    dsimp only
    split
    · exact .dragFault s h .below .bladeLoss _ takes (by decide)
    · next hb => exact .dragSample s h .below (by
        simp only [HeadRecord.drag_eq, Monitor.dragged, Nat.not_le] at hb
        simp [Monitor.Within, Monitor.dragged, hb])
  | within => exact .dragSample s h .within (by simp [Monitor.Within, Monitor.dragged])

/-- The cycle check of a head that takes faults is a chain of moves (R109, R110). -/
theorem Moves.cycleCheck (h : Head) (r : InFlight) (cycles ms : Nat) (takes : (s.head h).TakesFaults) :
    Moves s (s.cycleCheck h r cycles ms) := by
  simp only [State.cycleCheck]
  generalize hrun : (if shortSample r.rate cycles ms (s.head h).monitorSettings.tolerance = true
    then (s.head h).monitor.stallRun + 1 else 0) = run
  have atMost : run ≤ (s.head h).monitor.stallRun + 1 := by subst hrun; split <;> omega
  split
  · exact .handFault s h .bladeStall _ 0 (.intro (s.head h).gapTimer (s.head h).overdueRunning
      { (s.head h).monitor with stallRun := run } _ (Nat.le_refl _) (Nat.le_refl _) (Nat.le_succ _) (Nat.le_succ _)
      atMost (.inl rfl)) (by decide)
      fun hs => by simp only [HeadRecord.TakesFaults] at takes; rcases hs with hs | hs <;> simp [hs] at takes
  · next hb =>
    exact .modHead s h _ (.monitored { (s.head h).monitor with stallRun := run } _ (by
      refine ⟨.inl ?_, .inl ?_, .inl ?_, .inl ?_, .inr ?_⟩ <;> simp; omega) (.inl rfl))

/-- A record that a STATUS frame checks is the oldest of a head that takes faults (R103). -/
theorem HeadRecord.checkedRecord_takes {hd : HeadRecord} {executing : Option Byte} {r : InFlight}
    (hc : hd.checkedRecord executing = some r) : hd.TakesFaults := by
  simp only [HeadRecord.checkedRecord] at hc
  split at hc
  all_goals simp_all [HeadRecord.TakesFaults]

/-- A fault handed to a head that takes faults is its fault entry (R131). -/
theorem State.handFault_takes {h : Head} (takes : (s.head h).TakesFaults) (cause : FaultCause) (issue : Option Byte)
    (code : Byte) : s.handFault h cause issue code = s.enterFault h cause issue code := by
  rw [State.handFault]
  obtain hs | hs | hs := takes <;> rw [hs]

/-- A drag sample leaves the state of its head. -/
theorem HeadRecord.drag_state (cls : DragClass) (hd : HeadRecord) : (hd.drag cls).state = hd.state := by
  rw [HeadRecord.drag_eq]

/-- The state after a drag check is that of before, or FAULT (R105, R106). -/
theorem State.dragCheck_state (h : Head) (r : InFlight) (drag : Nat) (takes : (s.head h).TakesFaults) :
    ((s.dragCheck h r drag).head h).state = .fault ∨ ((s.dragCheck h r drag).head h).state = (s.head h).state := by
  have sampledTakes (cls : DragClass) : ((s.modHead h (HeadRecord.drag cls)).head h).TakesFaults := by
    simpa only [HeadRecord.TakesFaults, State.head_modHead_same, HeadRecord.drag_state] using takes
  simp only [State.dragCheck]
  generalize dragClass r drag = cls
  have faults (cause : FaultCause) (issue : Option Byte) :
      (((s.modHead h (HeadRecord.drag cls)).handFault h cause issue 0).head h).state = .fault := by
    rw [State.handFault_takes _ (sampledTakes cls), State.enterFault_head, if_pos rfl]; rfl
  have sampled : ((s.modHead h (HeadRecord.drag cls)).head h).state = (s.head h).state := by
    rw [State.head_modHead_same, HeadRecord.drag_state]
  cases cls with
  | above =>
    dsimp only
    split
    · simp only [State.highRunReached]
      split
      · exact .inr (by simp [State.changeDerate, HeadRecord.drag_state])
      · exact .inl (faults _ _)
    · exact .inr sampled
  | below =>
    dsimp only
    split
    · exact .inl (faults _ _)
    · exact .inr sampled
  | within => exact .inr sampled

/-- A checked sample of a head that takes faults is a chain of moves (R103, R111). -/
theorem Moves.sample (h : Head) (r : InFlight) (drag cycles ms : Nat) (takes : (s.head h).TakesFaults) :
    Moves s (s.sample h r drag cycles ms) := by
  simp only [State.sample]
  have dragged := Moves.dragCheck s h r drag takes
  split
  · exact dragged
  · next hs =>
    exact dragged.trans (Moves.cycleCheck _ h r cycles ms (by
      simpa only [HeadRecord.TakesFaults, (s.dragCheck_state h r drag takes).resolve_left hs] using takes))

theorem HeadRecord.signOfLife_state (hd : HeadRecord) : hd.signOfLife.state = hd.state := by
  rw [HeadRecord.signOfLife]
  split <;> simp_all

theorem Moves.status (h : Head) (executing : Option Byte) (drag cycles ms : Nat) :
    Moves s (statusEffect h executing drag cycles ms s) := by
  rw [statusEffect]
  split
  · exact .refl
  · have alive : Moves s (s.modHead h HeadRecord.signOfLife) := .modHead s h _ .alive
    simp only
    cases hc : (s.head h).checkedRecord executing with
    | none => exact alive
    | some r =>
      refine alive.trans (Moves.sample _ h r drag cycles ms ?_)
      have takes := HeadRecord.checkedRecord_takes hc
      simpa only [HeadRecord.TakesFaults, State.head_modHead_same, HeadRecord.signOfLife_state] using takes

end

end Sys2Proof.Machine

/-! ### Every command and every step as moves -/

namespace Sys2Proof.Machine

section
variable (s : State)

/-! #### Commands of the heads -/

theorem Moves.flush (h : Head) : Moves s (s.flush h) := .single (.flushed h)

theorem Moves.flushAll : Moves s s.flushAll :=
  (((Moves.flush s 0).trans (Moves.flush _ 1)).trans (Moves.flush _ 2)).trans (Moves.flush _ 3)

theorem Moves.writeSettings (ops : SetHeadOps) (previous : Settings) (pass : settingsPass ops = true) :
    Moves s (s.writeSettings ops previous) :=
  ((Moves.modHead s ops.head _ (.settings ops pass)).trans (Moves.raiseOccasion _ _)).trans (Moves.answer _ _ _)

theorem enableResult_entersReady {hd : HeadRecord} {stop enable : Bool}
    (h : enableResult hd stop enable = .entersReady) : hd.state = .off := by
  simp only [enableResult] at h
  grind

theorem enableResult_entersOff {hd : HeadRecord} {stop enable : Bool}
    (h : enableResult hd stop enable = .entersOff) : hd.TakesFaults ∧ hd.inFlight = [] := by
  simp only [enableResult, HeadRecord.TakesFaults] at *
  grind

theorem Moves.setHead (ops : SetHeadOps) : Moves s (setHeadEffect ops s) := by
  simp only [setHeadEffect]
  split
  · exact .refuse s _
  · next hp =>
    have pass : settingsPass ops = true := by simpa using hp
    split
    · exact .refuse s _
    · exact .writeSettings s ops _ pass
    · next he =>
      exact ((Moves.modHead s ops.head _ (.enabled (enableResult_entersReady he))).trans
        (Moves.writeSettings _ ops _ pass)).trans (Moves.raiseOccasion _ _)
    · next he =>
      obtain ⟨takes, idle⟩ := enableResult_entersOff he
      exact Chain.trans (.single (.off ops.head takes idle)) (Moves.writeSettings _ ops _ pass)

theorem Moves.setPosition (ops : HeadPointOps) : Moves s (setPositionEffect ops s) := by
  simp only [setPositionEffect]
  split
  · exact .refuse s _
  · next hs =>
    split
    · exact .refuse s _
    · next he =>
      exact (Moves.modHead s ops.head _ (.placed ops.point hs (by simpa using he))).trans (Moves.answer _ _ _)

theorem Moves.hold (h : Head) (hard : Bool) (takes : (s.head h).TakesFaults) : Moves s (s.hold h hard) := by
  have entered (cause : HoldCause) (hs : (s.head h).state = .ready ∨ (s.head h).state = .cutting) :
      Moves s (s.enterHeld h cause) := .single (.held h cause hs)
  unfold State.hold
  cases hs : (s.head h).state with
  | held =>
    cases hard with
    | false => exact .refl
    | true => exact (Moves.modHead s h _ (.hardened hs)).tail (.halting h)
  | ready | cutting =>
    cases hard with
    | false => exact entered .soft (by simp [hs])
    | true => exact (entered .hard (by simp [hs])).tail (.halting h)
  | off | fault => simp [HeadRecord.TakesFaults, hs] at takes

theorem Moves.holdHead (ops : HoldHeadOps) : Moves s (holdHeadEffect ops s) := by
  have held (takes : (s.head ops.head).TakesFaults) : Moves s ((s.hold ops.head ops.hard).oweHold ops.head) := by
    refine (Moves.hold s ops.head ops.hard takes).trans ?_
    simp only [State.oweHold]
    split
    · exact Moves.answer _ _ _
    · exact Moves.modHead _ _ _ .owing
  rw [holdHeadEffect]
  cases hs : (s.head ops.head).state with
  | off | fault => exact .refuse s _
  | ready | cutting | held => exact held (by simp [HeadRecord.TakesFaults, hs])

theorem Moves.releaseHead (ops : HeadOps) : Moves s (releaseHeadEffect ops s) := by
  simp only [releaseHeadEffect]
  split
  · next hs =>
    exact ((Moves.modHead s ops.head _ (.released hs)).trans (Moves.raiseOccasion _ _)).trans (Moves.answer _ _ _)
  · exact .refuse s _

theorem Moves.clearHead (ops : HeadPointOps) : Moves s (clearHeadEffect ops s) := by
  simp only [clearHeadEffect]
  split
  · exact .refuse s _
  · next hs =>
    split
    · exact .refuse s _
    · exact (Chain.trans (.single (.cleared ops.head ops.point (Classical.not_not.mp hs)))
        (Moves.answer _ _ _)).trans (Moves.raiseOccasion _ _)

theorem Moves.setMonitor (ops : SetMonitorOps) : Moves s (setMonitorEffect ops s) := by
  rw [setMonitorEffect]
  split
  · next hp => exact (Moves.modHead s ops.head _ (.monitorSettings ops hp)).trans (Moves.answer _ _ _)
  · exact .refuse s _

theorem Moves.setTimers (ops : SetTimersOps) : Moves s (setTimersEffect ops s) := by
  rw [setTimersEffect]
  split
  · next hp => exact (Moves.modHead s ops.head _ (.timerSettings ops hp)).trans (Moves.answer _ _ _)
  · exact .refuse s _

theorem Moves.driveFault (h : Head) (issue code : Byte) : Moves s (driveFaultEffect h issue code s) := by
  rw [driveFaultEffect]
  split
  · exact .endFrame s _ _
  · next hc =>
    split
    · exact .raise s _ _
    · exact .handFault_same s h _ _ _ ⟨fun _ => rfl, fun _ => hc⟩

theorem Moves.stroke (st : Stroke) : Moves s (strokeEffect st s) := by
  rw [strokeEffect]
  split
  · next hl =>
    have joined : Moves s (s.modHead st.head fun hd => { hd with queue := hd.queue ++ [⟨st, s.marks st⟩] }) :=
      .modHead s st.head _ (.accepted _ rfl hl)
    simp only [State.accept]
    split
    · exact joined.trans (Moves.raiseOccasion _ _)
    · exact joined
  · exact .raise s _ _

/-! #### Commands of the tables and the map -/

theorem Moves.withGrades (v : Vector GradeEntry 16) : Moves s (s.withGrades v) :=
  .single (.aside rfl rfl rfl rfl List.suffix_rfl (Nat.le_refl _) fun _ ho => ho)

theorem Moves.withWindows (v : Vector TagWindow 4) : Moves s (s.withWindows v) :=
  .single (.aside rfl rfl rfl rfl List.suffix_rfl (Nat.le_refl _) fun _ ho => ho)

theorem Moves.setSourceRecord (src : Source) (r : SourceRecord) : Moves s (s.setSource src r) :=
  .single (.aside rfl rfl rfl rfl List.suffix_rfl (Nat.le_refl _) fun _ ho => ho)

theorem Moves.withCounters (v : LinkCounters) : Moves s (s.withCounters v) :=
  .single (.aside rfl rfl rfl rfl List.suffix_rfl (Nat.le_refl _) fun _ ho => ho)

/-- A change of the outbound state that adds no notice. -/
theorem Moves.withOut (v : Outbound) (h : v.notices.length ≤ s.out.notices.length) : Moves s (s.withOut v) :=
  .single (.aside rfl rfl rfl rfl List.suffix_rfl h fun _ ho => ho)

theorem Moves.writeGrade (ops : WriteGradeOps) : Moves s (writeGradeEffect ops s) := by
  rw [writeGradeEffect]
  split
  · split
    · exact ((Moves.withGrades s _).trans (Moves.raiseOccasion _ _)).trans (Moves.answer _ _ _)
    · exact .refuse s _
  · exact .refuse s _

theorem Moves.setNotifyWindow (ops : NotifyWindowOps) : Moves s (setNotifyWindowEffect ops s) := by
  rw [setNotifyWindowEffect]
  split
  · exact (Moves.withWindows s _).trans (Moves.answer _ _ _)
  · exact .refuse s _

theorem Moves.setPreset (src : Source) (ops : SetPresetOps) : Moves s (setPresetEffect src ops s) := by
  simp only [setPresetEffect]
  split
  · exact .refuse s _
  · exact (Moves.setSourceRecord s _ _).trans (Moves.answer _ _ _)

theorem Moves.setSource (src : Source) (ops : SetSourceOps) : Moves s (setSourceEffect src ops s) := by
  simp only [setSourceEffect]
  split
  · exact .refuse s _
  · split
    · exact (Moves.setSourceRecord s _ _).trans (Moves.answer _ _ _)
    · exact .refuse s _

/-- The entries that a SPAN_WRITE writes are cells of the map (R147). -/
theorem State.spanEntries_written_inMap (ops : SpanWriteOps) (shield : BitVec 16) (hr : ops.row.toNat < s.block.rows) :
    ∀ c ∈ (s.spanEntries ops shield .written).map (spanCell ops.row.toNat ops.firstColumn.toNat),
      c.inMap s.block = true := by
  intro c hc
  obtain ⟨k, hk, rfl⟩ := List.mem_map.mp hc
  have hw : s.spanEntry ops shield k = .written := by simpa using (List.mem_filter.mp hk).2
  have inside : ¬ s.block.columns ≤ (spanCell ops.row.toNat ops.firstColumn.toNat k).column := by
    intro ho
    simp [State.spanEntry, ho] at hw
  simp only [CellRef.inMap, Bool.and_eq_true, decide_eq_true_eq]
  exact ⟨by omega, hr⟩

theorem Moves.spanWrite (src : Source) (ops : SpanWriteOps) : Moves s (spanWriteEffect src ops s) := by
  rw [spanWriteEffect]
  split
  · exact .refuse s _
  · next hl =>
    split
    · exact .refuse s _
    · split
      · exact .refuse s _
      · next hr =>
        split
        · exact .refuse s _
        · next field _ =>
          have wrote := Chain.single (Move.programmed (s := s) field (s.source src) _ (Classical.not_not.mp hl)
            (s.spanEntries_written_inMap ops (s.source src).protectedSet (Nat.not_le.mp hr)))
          simp only [State.writeSpan]
          refine Chain.trans ?_ (Moves.answer _ _ _)
          split
          · exact wrote
          · exact wrote.trans (Moves.raiseOccasion _ _)

theorem Moves.spanQuery (ops : SpanQueryOps) : Moves s (spanQueryEffect ops s) := by
  rw [spanQueryEffect]
  split
  · exact .refuse s _
  · split
    · exact .refuse s _
    · exact .answer s _ _

theorem Moves.readCell (ops : ReadCellOps) : Moves s (readCellEffect ops s) := by
  simp only [readCellEffect]
  split
  · exact .refuse s _
  · split
    · exact .refuse s _
    · exact .answer s _ _

theorem Moves.setEvents (ops : SetEventsOps) : Moves s (setEventsEffect ops s) :=
  (Moves.withOut s { s.out with
    enables := ops.enables, events := s.out.events.filter fun e => enabledIn ops.enables e.cls }
    (Nat.le_refl _)).trans (Moves.answer _ _ _)

theorem Moves.readStatus (ops : ReadStatusOps) : Moves s (readStatusEffect ops s) := by
  rw [readStatusEffect_eq]
  exact (Moves.answer s _ _).trans (Moves.withCounters _ _)

theorem Moves.setJobTag (ops : SetJobTagOps) : Moves s (setJobTagEffect ops s) :=
  (Moves.withMgmt s _).trans (Moves.answer _ _ _)

/-! #### The ends of frames -/

theorem Moves.place (frame : LineFrame) : Moves s (s.place frame) :=
  .single (.aside rfl rfl rfl rfl List.suffix_rfl (Nat.le_refl _) fun _ ho => ho)

theorem Moves.replySent : Moves s (replySentEffect s) := by
  have gone : Moves s s.replyGone :=
    (Moves.withOut s { s.out with tx := none, replySlot := none } (Nat.le_refl _)).trans (Moves.withMgmt _ _)
  rw [replySentEffect]
  split
  · split
    · exact .place s _
    · exact gone
  · exact gone
  all_goals exact .refl

theorem Moves.doneSent : Moves s (doneSentEffect s) := by
  have free : Moves s s.freeLine := .withOut s _ (Nat.le_refl _)
  rw [doneSentEffect]
  split
  · split
    · next n rest hn =>
      split
      · exact (Moves.withOut s { s.out with tx := none, notices := rest } (by simp [hn])).trans (Moves.raiseOccasion _ _)
      · exact free
    · exact free
  all_goals exact .refl

theorem Moves.eventSent : Moves s (eventSentEffect s) := by
  rw [eventSentEffect]
  split
  · exact .withOut s _ (Nat.le_refl _)
  all_goals exact .refl

theorem Moves.driveFrameSent : Moves s (driveFrameSentEffect s) :=
  .single (.aside rfl rfl rfl rfl List.suffix_rfl (Nat.le_refl _) fun _ ho => ho)

theorem Moves.machineStopAsserted : Moves s (machineStopAssertedEffect s) := by
  rw [machineStopAssertedEffect]
  split
  · exact .refl
  · exact ((Moves.setStop s true).trans (Moves.stopHeads _)).trans (Moves.raise _ _ _)

theorem Moves.machineStopDeasserted : Moves s (machineStopDeassertedEffect s) := by
  rw [machineStopDeassertedEffect]
  split
  · exact (Moves.setStop s false).trans (Moves.raise _ _ _)
  · exact .refl

/-! #### Commands that change the block -/

theorem State.flush_inFlight (h g : Head) : ((s.flush h).head g).inFlight = (s.head g).inFlight := by
  rw [State.flush_eq, State.head_modHead]
  split <;> rfl

/-- A flush of every queue leaves the strokes in flight. -/
theorem State.flushAll_anyInFlight : s.flushAll.anyInFlight = s.anyInFlight := by
  have same (g : Head) : (s.flushAll.head g).inFlight = (s.head g).inFlight := by
    show (((((s.flush 0).flush 1).flush 2).flush 3).head g).inFlight = _
    simp only [State.flush_inFlight]
  rw [Bool.eq_iff_iff, State.anyInFlight_iff, State.anyInFlight_iff]
  simp only [same]

@[simp] theorem State.flushAll_block : s.flushAll.block = s.block := by
  show ((((s.flush 0).flush 1).flush 2).flush 3).block = s.block
  simp

theorem Reaches.loadBlock (ops : LoadBlockOps) : Reaches s (loadBlockEffect ops s) := by
  rw [loadBlockEffect]
  split
  · exact (Moves.refuse s _).reaches
  · next hp =>
    split
    · exact (Moves.refuse s _).reaches
    · next hi =>
      have begun : BlockMove s.flushAll (s.flushAll.beginBlock (loadRecord ops)) :=
        .begun ops (by simpa using hp) (by rw [State.flushAll_anyInFlight]; simpa using hi)
      exact (begun.reaches.before (Moves.flushAll s)).then (Moves.withMgmt _ _)

theorem Reaches.initialisationVisitEnd : Reaches s (initialisationVisitEndEffect s) := by
  rw [initialisationVisitEndEffect]
  split
  · next hs =>
    exact ((BlockMove.initialised hs).reaches.then (Moves.raiseOccasion _ _)).then (Moves.answer _ _ _)
  all_goals exact Moves.reaches .refl

theorem Reaches.unloadBlock (ops : NoOps) : Reaches s (unloadBlockEffect ops s) := by
  have visit (hs : s.block.state ≠ .noBlock) (hi : s.anyInFlight = false) :
      Reaches s (s.flushAll.withBlock { s.block with unloadVisit := true }) := by
    have started := BlockMove.unloading (s := s.flushAll) (by rwa [State.flushAll_block])
      (by rwa [State.flushAll_anyInFlight])
    rw [State.flushAll_block] at started
    exact started.reaches.before (Moves.flushAll s)
  rw [unloadBlockEffect]
  split
  · exact (Moves.refuse s _).reaches
  all_goals
    next hs =>
    split
    · exact (Moves.refuse s _).reaches
    · next hi => exact visit (by simp [hs]) (by simpa using hi)

theorem Reaches.unloadVisitEnd : Reaches s (unloadVisitEndEffect s) := by
  rw [unloadVisitEndEffect]
  split
  · next hv => exact (BlockMove.unloaded hv).reaches.then (Moves.answer _ _ _)
  · exact Moves.reaches .refl

theorem Reaches.resetPart (ops : NoOps) : Reaches s (resetPartEffect ops s) := by
  rw [resetPartEffect]
  split
  · exact (Moves.refuse s _).reaches
  · refine Reaches.then (BlockMove.reset ?_ ?_ ?_ ?_ ?_ ?_ ?_).reaches (Moves.answer _ _ _) <;> rfl

/-! #### Every command -/

/-- A MANAGE command: an overrun, a refusal, or what its unit does with the slot taken (R153 to R156). -/
theorem Reaches.manageTo {α : Type} (c : Instr) (hdr : Header) (ops : Operands α) {f : α → State → State}
    (hf : ∀ a u, Reaches u (f a u)) : Reaches s (manageTo c hdr ops f s) := by
  rw [Machine.manageTo]
  split
  · exact (Moves.raise s _ _).reaches
  · have taken : Moves s (s.withMgmt { s.mgmt with slot := some c }) := .withMgmt s _
    cases ops with
    | wrongLength => exact (taken.trans (Moves.refuse _ _)).reaches
    | given a => exact (hf a _).before taken

/-- The effect of every command is a chain of moves with at most one change of the block. -/
theorem effectOf_reaches (c : Instr) : Reaches s (effectOf c s) := by
  cases c with
  | stroke st => exact (Moves.stroke s st).reaches
  | loadBlock hdr ops => exact .manageTo s _ hdr ops fun a u => .loadBlock u a
  | initialisationVisitEnd => exact .initialisationVisitEnd s
  | unloadBlock hdr ops => exact .manageTo s _ hdr ops fun a u => .unloadBlock u a
  | unloadVisitEnd => exact .unloadVisitEnd s
  | writeGrade hdr ops => exact .manageTo s _ hdr ops fun a u => (Moves.writeGrade u a).reaches
  | setNotifyWindow hdr ops => exact .manageTo s _ hdr ops fun a u => (Moves.setNotifyWindow u a).reaches
  | flushQueue hdr ops =>
    exact .manageTo s _ hdr ops fun a u => ((Moves.flush u a.head).trans (Moves.answer _ _ _)).reaches
  | setHead hdr ops => exact .manageTo s _ hdr ops fun a u => (Moves.setHead u a).reaches
  | setPosition hdr ops => exact .manageTo s _ hdr ops fun a u => (Moves.setPosition u a).reaches
  | holdHead hdr ops => exact .manageTo s _ hdr ops fun a u => (Moves.holdHead u a).reaches
  | releaseHead hdr ops => exact .manageTo s _ hdr ops fun a u => (Moves.releaseHead u a).reaches
  | clearHead hdr ops => exact .manageTo s _ hdr ops fun a u => (Moves.clearHead u a).reaches
  | setMonitor hdr ops => exact .manageTo s _ hdr ops fun a u => (Moves.setMonitor u a).reaches
  | setTimers hdr ops => exact .manageTo s _ hdr ops fun a u => (Moves.setTimers u a).reaches
  | setPreset hdr ops => exact .manageTo s _ hdr ops fun a u => (Moves.setPreset u _ a).reaches
  | setSource hdr ops => exact .manageTo s _ hdr ops fun a u => (Moves.setSource u _ a).reaches
  | spanWrite hdr ops => exact .manageTo s _ hdr ops fun a u => (Moves.spanWrite u _ a).reaches
  | spanQuery hdr ops => exact .manageTo s _ hdr ops fun a u => (Moves.spanQuery u a).reaches
  | readCell hdr ops => exact .manageTo s _ hdr ops fun a u => (Moves.readCell u a).reaches
  | setEvents hdr ops => exact .manageTo s _ hdr ops fun a u => (Moves.setEvents u a).reaches
  | readStatus hdr ops => exact .manageTo s _ hdr ops fun a u => (Moves.readStatus u a).reaches
  | setJobTag hdr ops => exact .manageTo s _ hdr ops fun a u => (Moves.setJobTag u a).reaches
  | resetPart hdr ops => exact .manageTo s _ hdr ops fun a u => .resetPart u a
  | badCommand hdr code => exact .manageTo s _ hdr (.given NoOps.mk) fun _ u => (Moves.refuse u .badCommand).reaches
  | evaluation h => exact (Moves.evaluation s h).reaches
  | pass => exact (Moves.pass s).reaches
  | driveFrameSent => exact (Moves.driveFrameSent s).reaches
  | status h executing drag cycles ms => exact (Moves.status s h _ _ _ _).reaches
  | complete h issue p => exact (Moves.complete s h issue).reaches
  | halted h issue k stop => exact (Moves.halted s h issue _ stop).reaches
  | driveFault h issue code => exact (Moves.driveFault s h issue code).reaches
  | statusGapExpiry h => exact (Moves.statusGapExpiry s h).reaches
  | overdueExpiry h => exact (Moves.overdueExpiry s h).reaches
  | machineStopAsserted => exact (Moves.machineStopAsserted s).reaches
  | machineStopDeasserted => exact (Moves.machineStopDeasserted s).reaches
  | corruptFrame link check => exact (Moves.endFrame s link _).reaches
  | lengthAbove48 link length => exact (Moves.endFrame s link _).reaches
  | receiveGap link => exact (Moves.endFrame s link _).reaches
  | replySent => exact (Moves.replySent s).reaches
  | doneSent => exact (Moves.doneSent s).reaches
  | eventSent => exact (Moves.eventSent s).reaches
  | resetPinLow => exact BlockMove.resetLow.reaches
  | powerOnReset => exact (BlockMove.reset (t := s.resetValues) rfl rfl rfl rfl rfl rfl rfl).reaches

/-- Every command is a chain of moves with at most one change of the block. -/
theorem exec_reaches {c : Instr} {t : State} (ht : exec c s = .next t) : Reaches s t := by
  obtain ⟨-, rfl⟩ | ⟨-, rfl⟩ | ⟨-, level, rfl⟩ | ⟨-, -, -, rfl⟩ := exec_cases ht
  · exact effectOf_reaches s .resetPinLow
  · exact effectOf_reaches s .powerOnReset
  · exact (Moves.setStop s level).reaches
  · exact (effectOf_reaches s c).then (Moves.settle _)

/-- Every step is a chain of moves with at most one change of the block. -/
theorem step_reaches {s t : State} (ht : step s = .next t) : Reaches s t := by
  obtain ⟨c, rest, -, ht⟩ | ⟨x, more, -, -, rfl⟩ | rfl := step_cases ht
  · exact (exec_reaches _ ht).before (Moves.withPending s rest)
  · exact (Moves.hear s more x).reaches
  · exact Moves.reaches .refl

end

end Sys2Proof.Machine

/-! ### What a move does to the record of a head -/

namespace Sys2Proof.Machine

/-- A head's record after a CLEAR_HEAD that is taken (R137, R138). -/
def HeadRecord.cleared (p : Point) (hd : HeadRecord) : HeadRecord :=
  ({ hd with inFlight := [], haltOutstanding := false } : HeadRecord).restore p

/-- What a move can make of the record of head h. -/
inductive HeadMove (s : State) (h : Head) : HeadRecord → Prop
  | same : HeadMove s h (s.head h)
  | record {hd : HeadRecord} (move : RecordMove h (s.head h) hd) : HeadMove s h hd
  | halting : HeadMove s h (s.head h).halting
  | flushed : HeadMove s h { s.head h with queue := [] }
  | held (cause : HoldCause) (state : (s.head h).state = .ready ∨ (s.head h).state = .cutting) :
      HeadMove s h { s.head h with state := .held, holdCause := some cause }
  | off (state : (s.head h).TakesFaults) (idle : (s.head h).inFlight = []) :
      HeadMove s h { s.head h with state := .off, holdCause := none }
  | refused (admits : (s.head h).state.admits = true) : HeadMove s h (s.head h).strokeRefused
  | issued (q : QueuedStroke) (rest : List QueuedStroke) (rating : Rating) (fp : List CellRef)
      (front : (s.head h).queue = q :: rest) (verdict : s.verdict h q = .issue rating fp) :
      HeadMove s h ((s.head h).strokeIssued q (buildRecord s h q rating))
  | completed (r : InFlight) (oldest : (s.head h).inFlight.head? = some r) :
      HeadMove s h { (s.head h).reportTaken r.stroke.finish with monitor := (s.head h).steppedDown r }
  | stopped (r : InFlight) (stop : Point) (oldest : (s.head h).inFlight.head? = some r) :
      HeadMove s h { (s.head h).reportTaken stop with
        chainEnd := if (s.head h).inFlight.tail = [] then ⟨stop, true⟩ else (s.head h).chainEnd }
  | faulted {hd : HeadRecord} (cause : FaultCause) (issue : Option Byte) (code : Byte)
      (state : (s.head h).TakesFaults) (ailing : Ailing (s.head h) hd) (coded : code ≠ 0 ↔ cause = .driveFault) :
      HeadMove s h (hd.faulted cause issue code)
  | cleared (p : Point) (state : (s.head h).state = .fault) : HeadMove s h ((s.head h).cleared p)

/-- A change of the record of one head, seen at any head. -/
theorem HeadMove.of_modHead {s u : State} {h : Head} {f : HeadRecord → HeadRecord} (hu : u.heads = s.heads)
    (hf : HeadMove s h (f (s.head h))) (g : Head) : HeadMove s g ((u.modHead h f).head g) := by
  rw [State.head_modHead, State.head_of_heads g hu]
  split
  · next e => subst e; exact hf
  · exact .same

/-- The resolution of every record of a head and its restoring, as an update of the state (R137, R138). -/
theorem State.resolveAll_restore_eq (s : State) (h : Head) (p : Point) :
    (s.resolveAll h).modHead h (HeadRecord.restore p) =
      (s.recordsResolved h (s.head h).inFlight).modHead h (HeadRecord.cleared p) := by
  rw [State.resolveAll, State.foldl_resolve, State.modHead_modHead, State.modHead_modHead]
  refine State.modHead_congr _ h ?_
  show ({ s.head h with inFlight := (s.head h).inFlight.drop (s.head h).inFlight.length, haltOutstanding := false } :
    HeadRecord).restore p = (s.head h).cleared p
  rw [List.drop_length]
  rfl

/-- What a move makes of each head's record. -/
theorem Move.head {s t : State} (m : Move s t) (g : Head) : HeadMove s g (t.head g) := by
  cases m with
  | aside block cells heads => rw [State.head_of_heads g heads]; exact .same
  | record h move => exact HeadMove.of_modHead (s := s) (f := fun _ => _) rfl (.record move) g
  | halting h =>
    rw [State.requestHalt_eq]
    refine HeadMove.of_modHead (s := s) (h := h) ?_ ?_ g
    · simp
    · exact .halting
  | waiting h fp => rw [State.head_recordWait]; exact .same
  | flushed h =>
    rw [State.flush_eq]
    refine HeadMove.of_modHead (s := s) (h := h) ?_ ?_ g
    · simp
    · exact .flushed
  | held h cause state =>
    rw [State.enterHeld_eq]
    refine HeadMove.of_modHead (s := s) (h := h) ?_ ?_ g
    · simp
    · exact (.held cause state)
  | off h state idle =>
    rw [State.enterOff_eq]
    refine HeadMove.of_modHead (s := s) (h := h) ?_ ?_ g
    · simp
    · exact (.off state idle)
  | refused h q rest reason front admits =>
    rw [State.refuseStroke_eq]
    refine HeadMove.of_modHead (s := s) (h := h) ?_ ?_ g
    · simp
    · exact (.refused admits)
  | issued h q rest rating fp front verdict =>
    rw [State.issueStroke_eq _ _ _ _ _ (by simp [front])]
    refine HeadMove.of_modHead (s := s) (h := h) ?_ ?_ g
    · simp
    · exact .issued q rest rating fp front verdict
  | completed h r oldest =>
    rw [State.takeComplete_eq]
    refine HeadMove.of_modHead (s := s) (h := h) ?_ ?_ g
    · simp
    · exact (.completed r oldest)
  | stopped h r k stop oldest =>
    rw [State.takeHalted_eq]
    refine HeadMove.of_modHead (s := s) (h := h) ?_ ?_ g
    · simp
    · exact (.stopped r stop oldest)
  | @faulted h hd cause issue code state ailing coded =>
    rw [State.enterFault_head]
    split
    · next e => subst e; rw [State.head_setHead_same]; exact .faulted cause issue code state ailing coded
    · next e => rw [State.head_setHead_other _ _ _ e]; exact .same
  | cleared h p state =>
    rw [State.resolveAll_restore_eq]
    refine HeadMove.of_modHead (s := s) (h := h) ?_ ?_ g
    · simp
    · exact (.cleared p state)
  | programmed field r refs => rw [State.head_modCells]; exact .same

/-- A change of the block leaves each head's record or resets it. -/
theorem BlockMove.head {s t : State} (b : BlockMove s t) (g : Head) : t.head g = s.head g ∨ t.head g = .reset := by
  cases b with
  | reset block cells heads => exact .inr ((State.head_of_heads (s := State.reset) g heads).trans (State.head_reset g))
  | _ => exact .inl rfl

/-- A law of each head's record on its own, kept by every step when every move of a record keeps it. -/
theorem step_keeps_heads {P : Head → HeadRecord → Prop} (hreset : ∀ h, P h .reset)
    (hm : ∀ (s : State) (h : Head) hd, (∀ g, P g (s.head g)) → HeadMove s h hd → P h hd) {s t : State}
    (hs : ∀ h, P h (s.head h)) (ht : step s = .next t) : ∀ h, P h (t.head h) :=
  (step_reaches ht).keeps (P := fun s => ∀ h, P h (s.head h)) (fun s _ m hs h => hm s h _ hs (m.head h))
    (fun _ _ b hs h => (b.head h).elim (fun e => e ▸ hs h) fun e => e ▸ hreset h) hs

end Sys2Proof.Machine

/-! ### What an issue has tested (R63) -/

namespace Sys2Proof.Machine

/-- The checks of R63 that a stroke has passed when it is issued. -/
structure Admitted (s : State) (h : Head) (q : QueuedStroke) (rating : Rating) (fp : List CellRef) : Prop where
  ready : s.blockReady = true
  admits : (s.head h).state.admits = true
  room : (s.head h).inFlight.length < 2
  valid : (s.head h).chainEnd.valid = true
  start : q.stroke.start = (s.head h).chainEnd.point
  startInside : inBlock s.block q.stroke.start = true
  finishInside : inBlock s.block q.stroke.finish = true
  length : pathLength s.block q.stroke ≤ 255
  rated : s.rate h q.stroke = .ok rating
  slot : q.notify = true → s.slotsInUse < 16
  footprint : fp = footprint s.block q.stroke (s.head h).settings.guard
  unclaimed : ∀ c ∈ fp, (s.cell c).claimedByOther h = false
  unyielding : ∀ e ∈ s.olderWaiters h, meets fp e.footprint = false

/-- Checks 13 to 15 passed (R78, R79). -/
theorem State.clearToIssue_issue {s : State} {h : Head} {q : QueuedStroke} {rating rating' : Rating} {fp : List CellRef}
    (hv : s.clearToIssue h q rating = .issue rating' fp) :
    rating' = rating ∧ (q.notify = true → s.slotsInUse < 16) ∧
      fp = footprint s.block q.stroke (s.head h).settings.guard ∧ (∀ c ∈ fp, (s.cell c).claimedByOther h = false) ∧
      ∀ e ∈ s.olderWaiters h, meets fp e.footprint = false := by
  simp only [State.clearToIssue] at hv
  split at hv
  · cases hv
  · next hn =>
    split at hv
    · cases hv
    · next hc =>
      split at hv
      · cases hv
      · next hy =>
        cases hv
        refine ⟨rfl, fun hq => ?_, rfl, ?_, ?_⟩
        · simpa [hq] using hn
        · simpa using hc
        · simpa using hy

/-- An issue has passed every check of R63. -/
theorem State.verdict_issue {s : State} {h : Head} {q : QueuedStroke} {rating : Rating} {fp : List CellRef}
    (hv : s.verdict h q = .issue rating fp) : Admitted s h q rating fp := by
  simp only [State.verdict] at hv
  split at hv
  · cases hv
  next h1 =>
  split at hv
  · cases hv
  next h2 =>
  split at hv
  · cases hv
  next h3 =>
  split at hv
  · cases hv
  next h4 =>
  split at hv
  · cases hv
  next h5 =>
  split at hv
  · cases hv
  next h6 =>
  split at hv
  · cases hv
  next h7 =>
  split at hv
  · cases hv
  next rating' hr =>
  obtain ⟨rfl, slot, footprint, unclaimed, unyielding⟩ := State.clearToIssue_issue hv
  simp only [Bool.not_eq_true', Bool.not_eq_false, Bool.and_eq_true] at h1 h2 h4 h6
  exact ⟨h1, h2, by omega, h4, Classical.not_not.mp h5, h6.1, h6.2, by omega, hr, slot, footprint, unclaimed, unyielding⟩

/-- A rating's feed is at least 1 and at most the requested feed, and only a CUT has a dominant grade and a drag window
(R76, R77). -/
theorem State.rate_ok {s : State} {h : Head} {st : Stroke} {rating : Rating} (hr : s.rate h st = .ok rating) :
    1 ≤ rating.feed ∧ rating.feed ≤ st.feed.toNat ∧ (rating.dominant.isSome ↔ st.kind = .cut) ∧
      (rating.window.isSome ↔ st.kind = .cut) := by
  rw [State.rate] at hr
  cases hk : st.kind with
  | cut =>
    simp only [hk, State.rateCut] at hr
    split at hr
    · cases hr
    · split at hr
      · cases hr
      · split at hr
        · cases hr
        · split at hr
          · cases hr
          · next hf =>
            cases hr
            exact ⟨Nat.one_le_iff_ne_zero.mpr hf, Nat.min_le_left _ _, by simp, by simp⟩
  | travel =>
    simp only [hk, State.rateTravel] at hr
    split at hr
    · cases hr
    · split at hr
      · cases hr
      · next hf =>
        cases hr
        exact ⟨Nat.one_le_iff_ne_zero.mpr hf, Nat.min_le_left _ _, by simp, by simp⟩

/-- A head that a stroke may go from is in READY or CUTTING (R63, check 2). -/
theorem HeadState.admits_iff (x : HeadState) : x.admits = true ↔ x = .ready ∨ x = .cutting := by
  cases x <;> simp [HeadState.admits]

end Sys2Proof.Machine

/-! ### The law of a head's record (R35, R37, R85, R86, R89, R112, R114, R119, R130) -/

namespace Sys2Proof.Machine

section
variable {hd : HeadRecord}

/-- A sign of life restarts a running status-gap timer of a head that is not OFF (R98, R112). -/
theorem HeadRecord.signOfLife_eq (hd : HeadRecord) :
    hd.signOfLife = { hd with gapTimer := if hd.state = .off then hd.gapTimer else hd.gapRestarted } := by
  by_cases off : hd.state = .off
  · rw [if_pos off]
    simp only [HeadRecord.signOfLife, off]
    rw [← off]
  · rw [if_neg off]
    cases timer : hd.gapTimer with
    | stopped =>
      simp only [HeadRecord.signOfLife, HeadRecord.gapRestarted, timer]
      rw [← timer]
    | running left => simp [HeadRecord.signOfLife, HeadRecord.gapRestarted, timer]

theorem HeadRecord.gapRestarted_running : hd.gapRestarted ≠ .stopped ↔ hd.gapTimer ≠ .stopped := by
  rw [HeadRecord.gapRestarted]
  cases hd.gapTimer <;> simp

/-- What the laws of a head's record read of its list: the length, the issue numbers, the strokes and which limits are
filled. The saw-high flag is none of it. -/
theorem HeadRecord.Seen.laws {l : List InFlight} (seen : hd.Seen l) :
    l.length = hd.inFlight.length ∧ (l = [] ↔ hd.inFlight = []) ∧ limitsFilled l = limitsFilled hd.inFlight ∧
      ({ hd with inFlight := l } : HeadRecord).pointsMeet = hd.pointsMeet ∧
      ({ hd with inFlight := l } : HeadRecord).numbersRun = hd.numbersRun := by
  obtain rfl | rfl := seen
  · exact ⟨rfl, .rfl, rfl, rfl, rfl⟩
  · simp only [HeadRecord.markSawHigh, HeadRecord.pointsMeet, HeadRecord.numbersRun]
    rcases hi : hd.inFlight with _ | ⟨r, _ | ⟨r', rest⟩⟩ <;> simp [limitsFilled, hi]

/-- A change between two states outside FAULT keeps the law of the record, when the hold cause and the list fit the new
state (R119, R130). -/
theorem HeadRecord.Lawful.withState {x : HeadState} {held : Option HoldCause} (hl : hd.Lawful) (hs : hd.state ≠ .fault)
    (hx : x ≠ .fault) (hh : held.isSome ↔ x = .held) (idle : x = .off ∨ x = .ready → hd.inFlight = [])
    (busy : x = .cutting → hd.inFlight ≠ []) : ({ hd with state := x, holdCause := held } : HeadRecord).Lawful := by
  obtain ⟨list, ⟨-, latch, code, issue, atMost, none⟩, ⟨gap, overdue, limits⟩, points, numbers, halt⟩ := hl
  refine ⟨⟨list.1, idle, busy⟩, ⟨hh, ?_, code, issue, atMost, fun _ => none hs⟩, ⟨?_, ?_, limits⟩, points, numbers, halt⟩
  · exact latch.trans (by simp [hs, hx])
  · exact gap.trans (by simp [hs, hx])
  · exact overdue.trans (by simp [hs, hx])

/-- A change of one record keeps the law of the record. -/
theorem RecordMove.lawful {h : Head} {hd' : HeadRecord} (m : RecordMove h hd hd') (hl : hd.Lawful) : hd'.Lawful := by
  have ⟨list, cause, timer, points, numbers, halt⟩ := hl
  cases m with
  | accepted q own room => exact ⟨list, cause, timer, points, numbers, halt⟩
  | alive =>
    rw [HeadRecord.signOfLife_eq]
    refine ⟨list, cause, ⟨?_, timer.2⟩, points, numbers, halt⟩
    show (if hd.state = .off then hd.gapTimer else hd.gapRestarted) ≠ .stopped ↔ _
    split
    · exact timer.1
    · exact HeadRecord.gapRestarted_running.trans timer.1
  | furtherFault state =>
    refine ⟨list, ?_, timer, points, numbers, halt⟩
    obtain ⟨held, latch, code, issue, atMost, none⟩ := cause
    exact ⟨held, latch, code, issue, Nat.min_le_left _ _, fun hs => absurd state hs⟩
  | gapStopped state =>
    refine ⟨list, cause, ⟨?_, timer.2⟩, points, numbers, halt⟩
    have := list.2.1
    grind
  | overdueStopped state =>
    refine ⟨list, cause, ⟨timer.1, ?_, timer.2.2⟩, points, numbers, halt⟩
    have := list.2.1
    grind
  | monitored m l within seen =>
    obtain ⟨length, empty, limits, meet, run⟩ := seen.laws
    simp only [HeadRecord.Lawful, HeadRecord.ListLaw, HeadRecord.TimerLaw, HeadRecord.HaltLaw] at *
    refine ⟨by rwa [length, empty, ne_eq, empty], cause, by rwa [ne_eq, ne_eq, empty, limits], meet.trans points,
      run.trans numbers, by rwa [ne_eq, empty]⟩
  | hardened state =>
    exact hl.withState (x := hd.state) (by simp [state]) (by simp [state]) (by simp [state]) (by simp [state])
      (by simp [state])
  | released state =>
    by_cases idle : hd.inFlight = []
    · have ready : hd.releasedTo = .ready := if_pos (by simp [idle])
      rw [ready]
      exact hl.withState (by simp [state]) (by simp) (by simp) (fun _ => idle) (by simp)
    · have cutting : hd.releasedTo = .cutting := if_neg (by simp [idle])
      rw [cutting]
      exact hl.withState (by simp [state]) (by simp) (by simp) (by simp) (fun _ => idle)
  | enabled state =>
    have idle : hd.inFlight = [] := list.2.1 (.inl state)
    have free : hd.holdCause.isSome = true ↔ HeadState.ready = .held := by rw [cause.1, state]; decide
    exact hl.withState (x := .ready) (by simp [state]) (by simp) free (fun _ => idle) (by simp)
  | settings ops pass => exact ⟨list, cause, timer, points, numbers, halt⟩
  | monitorSettings ops pass => exact ⟨list, cause, timer, points, numbers, halt⟩
  | timerSettings ops pass => exact ⟨list, cause, timer, points, numbers, halt⟩
  | placed p state idle =>
    refine ⟨list, cause, timer, ?_, numbers, halt⟩
    simp [HeadRecord.placeAt, HeadRecord.pointsMeet, idle]
  | owing => exact ⟨list, cause, timer, points, numbers, halt⟩

/-- An issue keeps the law: the stroke starts at the chain end and takes the next number (R37, R80, R85, R86). -/
theorem HeadRecord.Lawful.strokeIssued {q : QueuedStroke} {r : InFlight} (hl : hd.Lawful)
    (admits : hd.state.admits = true) (room : hd.inFlight.length < 2) (start : q.stroke.start = hd.chainEnd.point)
    (hr : r.stroke = q.stroke ∧ r.issue = hd.issueCounter ∧ r.overdueLimit = none) : (hd.strokeIssued q r).Lawful := by
  obtain ⟨list, ⟨held, latch, code, issue, atMost, none⟩, ⟨gap, overdue, limits⟩, points, numbers, halt⟩ := hl
  obtain ⟨stroke, number, empty⟩ := hr
  have cutting : (hd.strokeIssued q r).state = .cutting := by
    rcases (HeadState.admits_iff _).mp admits with e | e <;> simp [HeadRecord.strokeIssued, e]
  have running : hd.state ≠ .fault := by rcases (HeadState.admits_iff _).mp admits with e | e <;> simp [e]
  have free : hd.state ≠ .held := by rcases (HeadState.admits_iff _).mp admits with e | e <;> simp [e]
  have causes : (hd.strokeIssued q r).CauseLaw :=
    ⟨held.trans (by simp [cutting, free]), latch.trans (by simp [cutting, running]), code, issue, atMost,
      fun _ => none running⟩
  rcases hi : hd.inFlight with _ | ⟨r₀, _ | ⟨r₁, more⟩⟩
  · have listed : (hd.strokeIssued q r).inFlight = [{ r with overdueLimit := some (overdueLimit hd.timerSettings r) }] := by
      simp [HeadRecord.strokeIssued, hi]
    refine ⟨by simp [HeadRecord.ListLaw, listed, cutting], causes, ⟨?_, ?_, by simp [listed, limitsFilled]⟩, ?_, ?_, ?_⟩
    · exact iff_of_true (by simp [HeadRecord.strokeIssued, hi]) ⟨by simp [listed], by simp [cutting]⟩
    · exact iff_of_true (by simp [HeadRecord.strokeIssued, hi, running]) ⟨by simp [listed], by simp [cutting]⟩
    · simp only [HeadRecord.pointsMeet, listed]
      simp [HeadRecord.strokeIssued, stroke]
    · simp only [HeadRecord.numbersRun, listed]
      simp [HeadRecord.strokeIssued, number]
    · simp [HeadRecord.HaltLaw, listed]
  · have listed : (hd.strokeIssued q r).inFlight = [r₀, r] := by simp [HeadRecord.strokeIssued, hi]
    simp only [HeadRecord.pointsMeet, HeadRecord.numbersRun, hi, beq_iff_eq] at points numbers
    refine ⟨by simp [HeadRecord.ListLaw, listed, cutting], causes, ⟨?_, ?_, ?_⟩, ?_, ?_, ?_⟩
    · exact (show _ ↔ _ by simp [HeadRecord.strokeIssued, hi]).trans (gap.trans (by simp [hi, listed, cutting, running]))
    · exact (show _ ↔ _ by simp [HeadRecord.strokeIssued, hi]).trans
        (overdue.trans (by simp [hi, listed, cutting, running]))
    · simpa [listed, limitsFilled, empty, hi] using limits
    · simp only [HeadRecord.pointsMeet, listed]
      simp [HeadRecord.strokeIssued, stroke, start, points]
    · simp only [HeadRecord.numbersRun, listed]
      simp [HeadRecord.strokeIssued, number, numbers]
    · simp [HeadRecord.HaltLaw, listed]
  · exact absurd (show (r₀ :: r₁ :: more).length < 2 from hi ▸ room) (by rw [List.length_cons, List.length_cons]; omega)

/-- A fault entry keeps the law (R131). -/
theorem HeadRecord.Lawful.faulted {hd' : HeadRecord} {cause : FaultCause} {issue : Option Byte} {code : Byte}
    (hl : hd.Lawful) (ailing : Ailing hd hd') (coded : code ≠ 0 ↔ cause = .driveFault) :
    (hd'.faulted cause issue code).Lawful := by
  obtain ⟨list, ⟨-, -, -, -, atMost, none⟩, timer, points, numbers, halt⟩ := hl
  cases ailing with
  | intro gap overdue m l derate clean high low stall seen =>
    obtain ⟨length, empty, limits, meet, run⟩ := seen.laws
    refine ⟨⟨length ▸ list.1, by simp [HeadRecord.faulted], by simp [HeadRecord.faulted]⟩, ?_, ?_,
      meet.trans points, run.trans numbers, ?_⟩
    · exact ⟨by simp [HeadRecord.faulted], by simp [HeadRecord.faulted], by simpa [HeadRecord.faulted] using coded,
        by simp [HeadRecord.faulted], atMost, by simp [HeadRecord.faulted]⟩
    · exact ⟨by simp [HeadRecord.faulted], by simp [HeadRecord.faulted], limits.trans timer.2.2⟩
    · show (hd.haltOutstanding || !l.isEmpty) = true → l ≠ []
      intro hf
      rcases Bool.or_eq_true_iff.mp hf with hf | hf
      · exact fun e => halt hf (empty.mp e)
      · simpa using hf

/-- The end of a record that is alone in flight is the chain end (R35). -/
theorem HeadRecord.Lawful.chainEnd_of_oldest {r : InFlight} (hl : hd.Lawful) (oldest : hd.inFlight.head? = some r) :
    hd.chainEnd = if hd.inFlight.tail = [] then ⟨r.stroke.finish, true⟩ else hd.chainEnd := by
  obtain ⟨-, -, -, points, -, -⟩ := hl
  split
  · next ht =>
    have hi : hd.inFlight = [r] := by rw [eq_cons_of_head? oldest, ht]
    simpa [HeadRecord.pointsMeet, hi] using points
  · rfl

/-- A matching report keeps the law, whatever it does to the monitor (R35, R86, R89, R92, R94, R112, R114, R130). -/
theorem HeadRecord.Lawful.reportTaken {r : InFlight} {reported : Point} {c : Position} {m : Monitor} (hl : hd.Lawful)
    (oldest : hd.inFlight.head? = some r)
    (hc : c = if hd.inFlight.tail = [] then ⟨reported, true⟩ else hd.chainEnd) :
    ({ hd.reportTaken reported with chainEnd := c, monitor := m } : HeadRecord).Lawful := by
  obtain ⟨list, ⟨held, latch, code, issue, atMost, none⟩, ⟨gap, overdue, limits⟩, points, numbers, halt⟩ := hl
  rcases hi : hd.inFlight with _ | ⟨r₀, _ | ⟨r₁, _ | ⟨r₂, more⟩⟩⟩
  · simp [hi] at oldest
  · have state : (hd.reportTaken reported).state = if hd.state = .cutting then .ready else hd.state := by
      simp [HeadRecord.reportTaken, HeadRecord.afterReport, hi]
    have listed : (hd.reportTaken reported).inFlight = [] := by
      simp [HeadRecord.reportTaken, HeadRecord.afterReport, HeadRecord.listAfter, hi]
    refine ⟨⟨by simp [listed], fun _ => listed, ?_⟩, ⟨?_, ?_, code, issue, atMost, ?_⟩, ⟨?_, ?_, ?_⟩, ?_, ?_, ?_⟩
    · show (hd.reportTaken reported).state = .cutting → _
      rw [state]; split <;> simp_all
    · show _ ↔ (hd.reportTaken reported).state = .held
      rw [state]; exact held.trans (by split <;> simp_all)
    · show _ ↔ (hd.reportTaken reported).state = .fault
      rw [state]; exact latch.trans (by split <;> simp_all)
    · show (hd.reportTaken reported).state ≠ .fault → _
      rw [state]; intro hs; exact none (by split at hs <;> simp_all)
    · simp [HeadRecord.reportTaken, HeadRecord.afterReport, HeadRecord.listAfter, hi]
    · simp [HeadRecord.reportTaken, HeadRecord.afterReport, HeadRecord.listAfter, hi]
    · simp [listed, limitsFilled]
    · simp only [HeadRecord.pointsMeet, listed]
      simp [hc, hi, HeadRecord.reportTaken, HeadRecord.afterReport]
    · simp [HeadRecord.numbersRun, listed]
    · simp [HeadRecord.HaltLaw, HeadRecord.reportTaken, HeadRecord.afterReport, hi]
  · have listed : (hd.reportTaken reported).inFlight =
        [{ r₁ with overdueLimit := some (overdueLimit hd.timerSettings r₁) }] := by
      simp [HeadRecord.reportTaken, HeadRecord.afterReport, HeadRecord.listAfter, hi]
    have same : (hd.reportTaken reported).state = hd.state := by
      simp [HeadRecord.reportTaken, HeadRecord.afterReport, hi]
    simp only [HeadRecord.pointsMeet, HeadRecord.numbersRun, hi, Bool.and_eq_true, beq_iff_eq] at points numbers
    simp only [HeadRecord.ListLaw, hi, reduceCtorEq, imp_false] at list
    refine ⟨⟨by simp [listed], fun hs => ?_, fun _ => by simp [listed]⟩, ⟨?_, ?_, code, issue, atMost, ?_⟩,
      ⟨?_, ?_, ?_⟩, ?_, ?_, ?_⟩
    · exact absurd (same ▸ hs) list.2.1
    · exact held.trans (by rw [show _ = hd.state from same])
    · exact latch.trans (by rw [show _ = hd.state from same])
    · exact fun hs => none (same ▸ hs)
    · simpa [HeadRecord.reportTaken, HeadRecord.afterReport, HeadRecord.listAfter, hi] using gap
    · simp [HeadRecord.reportTaken, HeadRecord.afterReport, HeadRecord.listAfter, hi]
    · simp [listed, limitsFilled]
    · simp [HeadRecord.pointsMeet, listed, hc, hi, points.2]
    · simp only [HeadRecord.numbersRun, listed]
      simpa [HeadRecord.reportTaken, HeadRecord.afterReport] using numbers.2
    · exact fun _ => by simp [listed]
  · exact absurd list.1 (by simp [hi])

/-- A cleared head is lawful (R137, R138). -/
theorem HeadRecord.Lawful.cleared (hl : hd.Lawful) (hs : hd.state = .fault) (p : Point) : (hd.cleared p).Lawful := by
  obtain ⟨list, cause, timer, points, numbers, halt⟩ := hl
  have free := cause.1
  simp only [hs, reduceCtorEq, iff_false, Bool.not_eq_true] at free
  simp [HeadRecord.Lawful, HeadRecord.ListLaw, HeadRecord.CauseLaw, HeadRecord.TimerLaw, HeadRecord.HaltLaw,
    HeadRecord.cleared, HeadRecord.restore, HeadRecord.pointsMeet, HeadRecord.numbersRun, limitsFilled, Latch.empty, free]

/-- Every move keeps the law of a head's record. -/
theorem HeadMove.lawful {s : State} {h : Head} {hd' : HeadRecord} (hl : (s.head h).Lawful) (m : HeadMove s h hd') :
    hd'.Lawful := by
  cases m with
  | same => exact hl
  | record move => exact move.lawful hl
  | halting =>
    obtain ⟨list, cause, timer, points, numbers, halt⟩ := hl
    refine ⟨list, cause, timer, points, numbers, ?_⟩
    show ((s.head h).haltOutstanding || !(s.head h).inFlight.isEmpty) = true → (s.head h).inFlight ≠ []
    intro hf
    rcases Bool.or_eq_true_iff.mp hf with hf | hf
    · exact halt hf
    · simpa using hf
  | flushed => exact hl
  | held cause state =>
    exact hl.withState (by rcases state with e | e <;> simp [e]) (by simp) (by simp) (by simp) (by simp)
  | off state idle =>
    exact hl.withState (by rcases state with e | e | e <;> simp [e]) (by simp) (by simp) (fun _ => idle) (by simp)
  | refused admits =>
    have state := (HeadState.admits_iff _).mp admits
    exact HeadRecord.Lawful.withState (hd := { s.head h with queue := (s.head h).queue.tail }) (x := .held)
      (held := some .refused) hl (by rcases state with e | e <;> simp [e]) (by simp) (by simp) (by simp) (by simp)
  | issued q rest rating fp front verdict =>
    have passed := State.verdict_issue verdict
    exact hl.strokeIssued passed.admits passed.room passed.start ⟨rfl, rfl, rfl⟩
  | completed r oldest => exact hl.reportTaken oldest (hl.chainEnd_of_oldest oldest)
  | stopped r stop oldest => exact hl.reportTaken oldest rfl
  | faulted cause issue code state ailing coded => exact hl.faulted ailing coded
  | cleared p state => exact hl.cleared state p

end

/-- The head's record after reset is lawful. -/
theorem HeadRecord.reset_lawful : HeadRecord.reset.Lawful := by
  refine ⟨⟨?_, ?_, ?_⟩, ?_, ?_, ?_, ?_, ?_⟩ <;> decide

/-- Settles O52: every step is a chain of moves, and every move keeps the law of each head's record. -/
theorem stepKeepsHeadsLawful : Obligations.StepKeepsHeadsLawful := fun _ _ hs ht =>
  step_keeps_heads (P := fun _ hd => hd.Lawful) (fun _ => HeadRecord.reset_lawful) (fun _ h _ hs m => m.lawful (hs h)) hs ht

end Sys2Proof.Machine

/-! ### Paths and footprints (R39, R40, R41, R43) -/

namespace Sys2Proof.Machine

/-- The whole number of units after i of n steps over a distance d, rounded half up (00 Conventions). -/
def roundedSteps (d i n : Nat) : Nat := (2 * i * d + n) / (2 * n)

section
variable {d i n : Nat}

theorem roundedSteps_bounds (hn : 0 < n) :
    2 * n * roundedSteps d i n ≤ 2 * i * d + n ∧ 2 * i * d + n < 2 * n * (roundedSteps d i n + 1) :=
  ⟨Nat.mul_div_le _ _, Nat.lt_mul_div_succ _ (by omega)⟩

theorem roundedSteps_start : roundedSteps d 0 n = 0 := by
  rw [roundedSteps, Nat.div_eq_zero_iff]
  omega

theorem roundedSteps_le (hi : i ≤ n) : roundedSteps d i n ≤ d := by
  obtain rfl | hn := Nat.eq_zero_or_pos n
  · simp [roundedSteps]
  · rw [roundedSteps, ← Nat.lt_succ_iff, Nat.div_lt_iff_lt_mul (by omega)]
    have : i * d ≤ n * d := Nat.mul_le_mul_right d hi
    calc 2 * i * d + n = 2 * (i * d) + n := by rw [Nat.mul_assoc]
      _ < 2 * (n * d) + 2 * n := by omega
      _ = d.succ * (2 * n) := by rw [Nat.succ_mul d, Nat.mul_comm d, Nat.mul_assoc 2 n d]

theorem roundedSteps_end (hn : 0 < n) : roundedSteps d n n = d := by
  rw [roundedSteps, Nat.mul_add_div (by omega), Nat.div_eq_of_lt (by omega)]
  rfl

theorem roundedSteps_self (hn : 0 < n) : roundedSteps n i n = i := by
  rw [roundedSteps, show 2 * i * n = 2 * n * i from Nat.mul_right_comm 2 i n, Nat.mul_add_div (by omega), Nat.div_eq_of_lt (by omega)]
  rfl

theorem roundedSteps_mono : roundedSteps d i n ≤ roundedSteps d (i + 1) n :=
  Nat.div_le_div_right (Nat.add_le_add_right (Nat.mul_le_mul_right d (by omega)) n)

/-- A step moves at most one unit when the distance is at most the number of steps. -/
theorem roundedSteps_succ_le (hd : d ≤ n) : roundedSteps d (i + 1) n ≤ roundedSteps d i n + 1 := by
  obtain rfl | hn := Nat.eq_zero_or_pos n
  · simp [roundedSteps]
  · rw [roundedSteps, roundedSteps, ← Nat.add_div_right _ (by omega)]
    exact Nat.div_le_div_right (by calc
      2 * (i + 1) * d + n = 2 * i * d + 2 * d + n := by rw [Nat.mul_add, Nat.add_mul, Nat.mul_one]
      _ ≤ 2 * i * d + n + 2 * n := by omega)

end

section
variable {a b i n : Nat}

theorem along_of_le (h : a ≤ b) : along a b i n = a + roundedSteps (b - a) i n := by
  have e : (i : Int) * ((b : Int) - a) = ((i * (b - a) : Nat) : Int) := by rw [Int.natCast_mul, Int.natCast_sub h]
  rw [along, e, roundDiv, if_pos (Int.natCast_nonneg _), roundedSteps,
    show 2 * i * (b - a) = 2 * (i * (b - a)) from Nat.mul_assoc ..]
  norm_cast

theorem along_of_ge (h : b ≤ a) : along a b i n = a - roundedSteps (a - b) i n := by
  have e : (i : Int) * ((b : Int) - a) = -((i * (a - b) : Nat) : Int) := by
    rw [Int.natCast_mul, Int.natCast_sub h, ← Int.mul_neg, Int.neg_sub]
  rw [along, e, roundDiv, roundedSteps, show 2 * i * (a - b) = 2 * (i * (a - b)) from Nat.mul_assoc ..]
  generalize i * (a - b) = m
  split
  · next hm =>
    obtain rfl : m = 0 := by omega
    have : n / (2 * n) = 0 := Nat.div_eq_zero_iff.mpr (by omega)
    rw [Nat.mul_zero, Nat.zero_add, this]
    have rest : (2 * -((0 : Nat) : Int) + n) / (2 * (n : Int)) = ((n / (2 * n) : Nat) : Int) := by simp
    rw [rest, this]
    simp
  · rw [Int.neg_neg]
    norm_cast
    omega

/-- A coordinate after i of n steps is rounded as R40 has it. -/
theorem along_roundedStep (hi : i ≤ n) (hn : 0 < n) : RoundedStep a b i n (along a b i n) := by
  refine ⟨fun h => ?_, fun h => ?_⟩
  · obtain ⟨lower, upper⟩ := roundedSteps_bounds (d := b - a) (i := i) hn
    rw [along_of_le h, Nat.add_sub_cancel_left]
    exact ⟨Nat.le_add_right _ _, lower, upper⟩
  · obtain ⟨lower, upper⟩ := roundedSteps_bounds (d := a - b) (i := i) hn
    have := roundedSteps_le (d := a - b) hi
    rw [along_of_ge h, Nat.sub_sub_self (by omega)]
    exact ⟨Nat.sub_le _ _, lower, upper⟩

theorem along_start : along a b 0 n = a := by
  obtain h | h := Nat.le_total a b
  · rw [along_of_le h, roundedSteps_start, Nat.add_zero]
  · rw [along_of_ge h, roundedSteps_start, Nat.sub_zero]

theorem along_end (hn : 0 < n) : along a b n n = b := by
  obtain h | h := Nat.le_total a b
  · rw [along_of_le h, roundedSteps_end hn]; omega
  · rw [along_of_ge h, roundedSteps_end hn]; omega

theorem along_between (hi : i ≤ n) : min a b ≤ along a b i n ∧ along a b i n ≤ max a b := by
  obtain h | h := Nat.le_total a b
  · have := roundedSteps_le (d := b - a) hi
    rw [along_of_le h]; omega
  · have := roundedSteps_le (d := a - b) hi
    rw [along_of_ge h]; omega

/-- Along a distance of at most n a coordinate moves by at most one at a step. -/
theorem along_adjacent (hd : b - a ≤ n ∧ a - b ≤ n) :
    along a b (i + 1) n ≤ along a b i n + 1 ∧ along a b i n ≤ along a b (i + 1) n + 1 := by
  obtain h | h := Nat.le_total a b
  · have := roundedSteps_mono (d := b - a) (i := i) (n := n)
    have := roundedSteps_succ_le (i := i) hd.1
    rw [along_of_le h, along_of_le h]; omega
  · have := roundedSteps_mono (d := a - b) (i := i) (n := n)
    have := roundedSteps_succ_le (i := i) hd.2
    rw [along_of_ge h, along_of_ge h]; omega

/-- Along a distance of n the coordinates of the steps differ. -/
theorem along_inj {j : Nat} (hd : b - a = n ∨ a - b = n) (hi : i ≤ n) (hj : j ≤ n)
    (e : along a b i n = along a b j n) : i = j := by
  obtain rfl | hn := Nat.eq_zero_or_pos n
  · omega
  · obtain hd | hd := hd
    · rw [along_of_le (by omega), along_of_le (by omega), hd, roundedSteps_self hn, roundedSteps_self hn] at e
      omega
    · rw [along_of_ge (by omega), along_of_ge (by omega), hd, roundedSteps_self hn, roundedSteps_self hn] at e
      omega

end

section
variable (b : BlockRecord) (st : Stroke)

theorem pathLength_eq : pathLength b st =
    max (max ((cellOf b st.finish).column - (cellOf b st.start).column)
        ((cellOf b st.start).column - (cellOf b st.finish).column))
      (max ((cellOf b st.finish).row - (cellOf b st.start).row)
        ((cellOf b st.start).row - (cellOf b st.finish).row)) := by
  rw [pathLength]
  omega

theorem path_length : (path b st).length = pathLength b st + 1 := by simp [path]

theorem path_getElem? {i : Nat} (hi : i ≤ pathLength b st) : (path b st)[i]? = some (pathCell b st i) := by
  rw [path, List.getElem?_map, List.getElem?_range (by omega)]
  rfl

theorem mem_path {p : PathCell} : p ∈ path b st ↔ ∃ i ≤ pathLength b st, pathCell b st i = p := by
  simp only [path, List.mem_map, List.mem_range, Nat.lt_succ_iff]

theorem pathCell_start : pathCell b st 0 = ⟨cellOf b st.start, st.start.z.toNat⟩ := by
  simp [pathCell, along_start]

/-- A path of length 0 has its two ends in one cell (R39). -/
theorem cellOf_finish_of_pathLength (h : pathLength b st = 0) : cellOf b st.finish = cellOf b st.start := by
  rw [pathLength_eq] at h
  rw [cellOf, cellOf, CellRef.mk.injEq]
  simp only [cellOf] at h
  omega

theorem pathCell_end : (pathCell b st (pathLength b st)).cell = cellOf b st.finish := by
  obtain h | h := Nat.eq_zero_or_pos (pathLength b st)
  · rw [h, pathCell_start, cellOf_finish_of_pathLength b st h]
  · simp only [pathCell, along_end h]

theorem pathCell_between {i : Nat} (hi : i ≤ pathLength b st) :
    min (cellOf b st.start).column (cellOf b st.finish).column ≤ (pathCell b st i).cell.column ∧
      (pathCell b st i).cell.column ≤ max (cellOf b st.start).column (cellOf b st.finish).column ∧
      min (cellOf b st.start).row (cellOf b st.finish).row ≤ (pathCell b st i).cell.row ∧
      (pathCell b st i).cell.row ≤ max (cellOf b st.start).row (cellOf b st.finish).row ∧
      min st.start.z.toNat st.finish.z.toNat ≤ (pathCell b st i).height ∧
      (pathCell b st i).height ≤ max st.start.z.toNat st.finish.z.toNat := by
  obtain ⟨column, column'⟩ := along_between (a := (cellOf b st.start).column) (b := (cellOf b st.finish).column) hi
  obtain ⟨row, row'⟩ := along_between (a := (cellOf b st.start).row) (b := (cellOf b st.finish).row) hi
  exact ⟨column, column', row, row', along_between hi⟩

/-- One coordinate runs over the whole path length, so no two path cells are one (R39, R40). -/
theorem pathCell_inj {i j : Nat} (hi : i ≤ pathLength b st) (hj : j ≤ pathLength b st)
    (e : (pathCell b st i).cell = (pathCell b st j).cell) : i = j := by
  have columns := congrArg CellRef.column e
  have rows := congrArg CellRef.row e
  have longest := pathLength_eq b st
  obtain column | row : ((cellOf b st.finish).column - (cellOf b st.start).column = pathLength b st ∨
        (cellOf b st.start).column - (cellOf b st.finish).column = pathLength b st) ∨
      ((cellOf b st.finish).row - (cellOf b st.start).row = pathLength b st ∨
        (cellOf b st.start).row - (cellOf b st.finish).row = pathLength b st) := by omega
  · exact along_inj column hi hj columns
  · exact along_inj row hi hj rows

/-- No cell stands twice in a path (R40). -/
theorem path_cells_nodup : ((path b st).map PathCell.cell).Nodup := by
  rw [path, List.map_map]
  refine nodup_map_of_inj List.nodup_range fun i hi j hj e => ?_
  rw [List.mem_range] at hi hj
  exact pathCell_inj b st (by omega) (by omega) e

theorem pathCell_adjacent (i : Nat) :
    (pathCell b st (i + 1)).cell.column ≤ (pathCell b st i).cell.column + 1 ∧
      (pathCell b st i).cell.column ≤ (pathCell b st (i + 1)).cell.column + 1 ∧
      (pathCell b st (i + 1)).cell.row ≤ (pathCell b st i).cell.row + 1 ∧
      (pathCell b st i).cell.row ≤ (pathCell b st (i + 1)).cell.row + 1 := by
  have longest := pathLength_eq b st
  have column : (cellOf b st.finish).column - (cellOf b st.start).column ≤ pathLength b st ∧
      (cellOf b st.start).column - (cellOf b st.finish).column ≤ pathLength b st := by omega
  have row : (cellOf b st.finish).row - (cellOf b st.start).row ≤ pathLength b st ∧
      (cellOf b st.start).row - (cellOf b st.finish).row ≤ pathLength b st := by omega
  obtain ⟨column, column'⟩ := along_adjacent (i := i) column
  exact ⟨column, column', along_adjacent row⟩

theorem near_iff {g a b : Nat} : near g a b = true ↔ a ≤ b + g ∧ b ≤ a + g := by simp [near]

/-- A footprint holds the cells of the map near a path cell (R43). -/
theorem mem_footprint {g : Nat} {c : CellRef} : c ∈ footprint b st g ↔ c.column < b.columns ∧ c.row < b.rows ∧
    ∃ p ∈ path b st, (c.column ≤ p.cell.column + g ∧ p.cell.column ≤ c.column + g) ∧
      (c.row ≤ p.cell.row + g ∧ p.cell.row ≤ c.row + g) := by
  obtain ⟨column, row⟩ := c
  simp only [footprint, List.mem_flatMap, List.mem_range, List.isEmpty_iff]
  constructor
  · rintro ⟨r, hr, hc⟩
    split at hc
    · cases hc
    · simp only [List.mem_map, List.mem_filter, List.mem_range, List.any_eq_true, near_iff, CellRef.mk.injEq] at hc
      obtain ⟨c, ⟨hc, p, ⟨⟨q, hq, rfl⟩, hrow⟩, hcol⟩, rfl, rfl⟩ := hc
      exact ⟨hc, hr, q, hq, hcol.symm, hrow.symm⟩
  · rintro ⟨hcolumn, hrow, q, hq, hc, hr⟩
    have beside : q.cell ∈ ((path b st).map PathCell.cell).filter fun p => near g p.row row :=
      List.mem_filter.mpr ⟨List.mem_map_of_mem hq, near_iff.mpr hr.symm⟩
    refine ⟨row, hrow, ?_⟩
    rw [if_neg (List.ne_nil_of_mem beside), List.mem_map]
    refine ⟨column, List.mem_filter.mpr ⟨List.mem_range.mpr hcolumn, ?_⟩, rfl⟩
    exact List.any_eq_true.mpr ⟨q.cell, beside, near_iff.mpr hc.symm⟩

theorem footprint_nodup (g : Nat) : (footprint b st g).Nodup := by
  have ofRow {r : Nat} {c : CellRef} {l : List CellRef} {p : Nat → Bool}
      (h : c ∈ if l.isEmpty then [] else ((List.range b.columns).filter p).map fun x => (⟨x, r⟩ : CellRef)) :
      c.row = r := by
    split at h
    · cases h
    · obtain ⟨x, -, rfl⟩ := List.mem_map.mp h
      rfl
  refine nodup_flatMap_of (fun r _ => ?_) (List.nodup_range.imp fun hr => ?_)
  · dsimp only
    split
    · exact List.nodup_nil
    · exact nodup_map_of_inj (nodup_filter List.nodup_range _) fun x _ y _ e => congrArg CellRef.column e
  · exact fun c hc hc' => hr ((ofRow hc).symm.trans (ofRow hc'))

end

/-- Settles O42: the coordinates of a path go `along` from end to end; a footprint is gathered row by row. -/
theorem pathAndFootprintOfAStroke : Obligations.PathAndFootprintOfAStroke := by
  refine ⟨fun b st => ⟨pathLength_eq b st, fun i hi hn => ?_, path_length b st, fun i hi => path_getElem? b st hi,
    pathCell_start b st, pathCell_end b st, fun hn => along_end hn, path_cells_nodup b st,
    fun i _ => pathCell_adjacent b st i, fun p hp => ?_⟩, fun b st g => ⟨footprint_nodup b st g, fun c =>
    mem_footprint b st⟩⟩
  · exact ⟨along_roundedStep hi hn, along_roundedStep hi hn, along_roundedStep hi hn⟩
  · obtain ⟨i, hi, rfl⟩ := (mem_path b st).mp hp
    exact pathCell_between b st hi

/-! ### The grades that a stroke meets (R4, R73) -/

/-- The grades of an interval are those of the crossed layers, whatever height the layers stand at (R4). -/
theorem mem_crossedFrom {a b g : Nat} {layers : List Layer} {base : Nat} :
    g ∈ crossedFrom a b base layers ↔ ∃ k l, layers[k]? = some l ∧ l.grade = g ∧
      a < base + stackTop (layers.take k) + l.thickness ∧ base + stackTop (layers.take k) < b := by
  induction layers generalizing base with
  | nil => simp [crossedFrom]
  | cons x above ih =>
    have crossed : g ∈ crossedFrom a b base (x :: above) ↔
        g ∈ crossedFrom a b (base + x.thickness) above ∨ (x.grade = g ∧ a < base + x.thickness ∧ base < b) := by
      simp only [crossedFrom]
      split <;> grind
    rw [crossed, ih]
    constructor
    · rintro (⟨k, l, hl, hg, ha, hb⟩ | ⟨hg, ha, hb⟩)
      · exact ⟨k + 1, l, hl, hg, by simp [stackTop] at *; omega, by simp [stackTop] at *; omega⟩
      · exact ⟨0, x, rfl, hg, by simpa [stackTop] using ha, by simpa [stackTop] using hb⟩
    · rintro ⟨_ | k, l, hl, hg, ha, hb⟩
      · cases hl
        exact .inr ⟨hg, by simpa [stackTop] using ha, by simpa [stackTop] using hb⟩
      · exact .inl ⟨k, l, hl, hg, by simp [stackTop] at *; omega, by simp [stackTop] at *; omega⟩

theorem crossedFrom_nodup (a b base : Nat) (layers : List Layer) : (crossedFrom a b base layers).Nodup := by
  induction layers generalizing base with
  | nil => exact List.nodup_nil
  | cons x above ih =>
    simp only [crossedFrom]
    split
    · next h => exact List.nodup_cons.mpr ⟨h.2.2, ih _⟩
    · exact ih _

/-- Settles O43: the crossed layers are gathered from the bottom layer up, each grade once. -/
theorem gradesOfCrossedLayers : Obligations.GradesOfCrossedLayers := by
  refine ⟨fun layers a b g => ?_, fun b kerf zd => ⟨fun h => if_pos h, fun hk ht => if_neg (by omega)⟩⟩
  rw [crossedGrades]
  split
  · next hab => exact ⟨crossedFrom_nodup .., by simp [mem_crossedFrom, hab]⟩
  · next hab => exact ⟨List.nodup_nil, by simp [hab]⟩

end Sys2Proof.Machine

/-! ### What a move writes in the cut map (R5, R46, R47, R91, R137, R147) -/

namespace Sys2Proof.Machine

open Sys2Proof.Laws

/-! #### Edits of the cut map -/

/-- The changes that the units make of one cell. -/
inductive Cell.Edit : (Cell → Cell) → Prop
  | claimed (h : Head) : Cell.Edit (Cell.claimBy h)
  | released : Cell.Edit Cell.release
  | committed (z : Nat) : Cell.Edit (Cell.commit z)
  | resolved (z : Nat) : Cell.Edit (Cell.resolve z)
  | programmed (field : SpanField) (r : SourceRecord) : Cell.Edit (Cell.program field r)

/-- The cells that the units write: those of the map, and the path cells of the strokes in flight. -/
abbrev State.Writes (s : State) (c : CellRef) : Prop :=
  c.inMap s.block = true ∨ ∃ h, ∃ r ∈ (s.head h).inFlight, ∃ p ∈ path s.block r.stroke, p.cell = c

/-- A cut map after edits of cells that the units write. -/
abbrev State.Edited (s : State) : CutMap → CutMap → Prop :=
  Chain fun m m' =>
    ∃ f c, Cell.Edit f ∧ s.Writes c ∧ m' = CutMap.modify s.block.top f c.address m

section
variable {s : State}

theorem State.Edited.of_eq {m m' : CutMap} (e : m' = m) : s.Edited m m' := e ▸ .refl

/-- Edits one after another. -/
theorem State.Edited.of_foldl {α : Type} (f : α → Cell → Cell) (at' : α → CellRef) (l : List α)
    (hf : ∀ a ∈ l, Cell.Edit (f a) ∧ s.Writes (at' a)) (m : CutMap) :
    s.Edited m (l.foldl (fun m a => CutMap.modify s.block.top (f a) (at' a).address m) m) := by
  induction l generalizing m with
  | nil => exact .refl
  | cons a l ih =>
    obtain ⟨edit, writes⟩ := hf a List.mem_cons_self
    exact .head ⟨f a, at' a, edit, writes, rfl⟩ (ih (fun b hb => hf b (List.mem_cons_of_mem _ hb)) _)

theorem State.Edited.of_modifyAll {f : Cell → Cell} {refs : List CellRef} (edit : Cell.Edit f)
    (inMap : ∀ c ∈ refs, c.inMap s.block = true) (m : CutMap) :
    s.Edited m (CutMap.modifyAll s.block.top f refs m) :=
  State.Edited.of_foldl (fun _ => f) id refs (fun c hc => ⟨edit, .inl (inMap c hc)⟩) m

theorem footprint_inMap {b : BlockRecord} {st : Stroke} {g : Nat} : ∀ c ∈ footprint b st g, c.inMap b = true := by
  intro c hc
  obtain ⟨column, row, -⟩ := (mem_footprint b st).mp hc
  simp [CellRef.inMap, column, row]

theorem State.Edited.released (r : InFlight) (m : CutMap) : s.Edited m (s.cellsReleased r m) :=
  State.Edited.of_modifyAll .released footprint_inMap m

theorem State.Edited.committed {h : Head} {r : InFlight} (flight : r ∈ (s.head h).inFlight) (k : Nat) (m : CutMap) :
    s.Edited m (s.cellsCommitted r k m) := by
  rw [State.cellsCommitted]
  split
  · exact .refl
  · exact State.Edited.of_foldl (fun p => Cell.commit p.height) PathCell.cell _ (fun p hp =>
      ⟨.committed _, .inr ⟨h, r, flight, p, List.mem_of_mem_take hp, rfl⟩⟩) m

theorem State.Edited.resolved {h : Head} {r : InFlight} (flight : r ∈ (s.head h).inFlight) (m : CutMap) :
    s.Edited m (s.cellsResolved r m) := by
  rw [State.cellsResolved]
  split
  · exact .refl
  · exact State.Edited.of_foldl (fun p => Cell.resolve p.height) PathCell.cell _ (fun p hp =>
      ⟨.resolved _, .inr ⟨h, r, flight, p, hp, rfl⟩⟩) m

theorem State.Edited.recordsGone {h : Head} {l : List InFlight} (flight : ∀ r ∈ l, r ∈ (s.head h).inFlight)
    (m : CutMap) : s.Edited m (l.foldl (fun m r => s.cellsReleased r (s.cellsResolved r m)) m) := by
  induction l generalizing m with
  | nil => exact .refl
  | cons r l ih =>
    have resolved := State.Edited.resolved (flight r List.mem_cons_self) m
    exact (resolved.trans (State.Edited.released r _)).trans (ih (fun x hx => flight x (List.mem_cons_of_mem _ hx)) _)

/-! #### Laws of edited maps -/

theorem State.Edited.wf {m m' : CutMap} (e : s.Edited m m') (hm : CutMap.wf s.block.top m) :
    CutMap.wf s.block.top m' := by
  induction e with
  | refl => exact hm
  | tail _ step ih =>
    obtain ⟨f, c, -, -, rfl⟩ := step
    exact CutMap.wf_modify ih

/-- A law of every listed cell that the edits keep, and that an unlisted cell has. -/
theorem State.Edited.forall_cells {P : Nat → Cell → Prop} {m m' : CutMap} (e : s.Edited m m')
    (fresh : ∀ c, s.Writes c → P c.address (.fresh s.block.top))
    (edit : ∀ f c x, Cell.Edit f → s.Writes c → P c.address x → P c.address (f x)) (hm : ∀ e ∈ m, P e.1 e.2) :
    ∀ e ∈ m', P e.1 e.2 := by
  have read {m : CutMap} {c : CellRef} (hc : s.Writes c) (hm : ∀ e ∈ m, P e.1 e.2) :
      P c.address (CutMap.read s.block.top m c.address) := by
    induction m with
    | nil => exact fresh c hc
    | cons x m ih =>
      obtain ⟨a, y⟩ := x
      rw [CutMap.read]
      split
      · next ha => exact ha ▸ hm _ List.mem_cons_self
      · exact ih fun e he => hm e (List.mem_cons_of_mem _ he)
  induction e with
  | refl => exact hm
  | tail _ step ih =>
    obtain ⟨f, c, hf, hc, rfl⟩ := step
    intro e he
    obtain he | rfl := CutMap.mem_write he
    · exact ih e he
    · exact edit f c _ hf hc (read hc ih)

/-- A relation between a cell before and after that the edits keep. -/
theorem State.Edited.read {R : Cell → Cell → Prop} {m m' : CutMap} (e : s.Edited m m')
    (hm : CutMap.wf s.block.top m) (refl : ∀ x, R x x) (edit : ∀ f x y, Cell.Edit f → R x y → R x (f y)) (k : Nat) :
    R (CutMap.read s.block.top m k) (CutMap.read s.block.top m' k) := by
  induction e with
  | refl => exact refl _
  | tail before step ih =>
    obtain ⟨f, c, hf, -, rfl⟩ := step
    rw [CutMap.read_modify (State.Edited.wf before hm)]
    split
    · exact edit f _ _ hf ih
    · exact ih

end

/-! #### Every move edits -/

section
variable {s t : State}

/-- No move changes the block record. -/
theorem Move.block (m : Move s t) : t.block = s.block := by
  cases m with
  | aside block => exact block
  | record | halting | waiting | flushed | programmed => simp
  | held => rw [State.enterHeld_eq]; simp
  | off => rw [State.enterOff_eq]; simp
  | refused => rw [State.refuseStroke_eq]; simp
  | issued h q rest rating fp front => rw [State.issueStroke_eq _ _ _ _ _ (by simp [front])]; simp
  | completed => rw [State.takeComplete_eq]; simp
  | stopped => rw [State.takeHalted_eq]; simp
  | faulted => simp
  | cleared => rw [State.resolveAll_restore_eq]; simp

/-- Every move edits the cut map. -/
theorem Move.edited (m : Move s t) : s.Edited s.cells t.cells := by
  cases m with
  | aside block cells => exact .of_eq cells
  | record | halting | waiting | flushed => exact .of_eq (by simp)
  | held => rw [State.enterHeld_eq]; exact .refl
  | off => rw [State.enterOff_eq]; exact .refl
  | refused => rw [State.refuseStroke_eq]; exact .refl
  | faulted => exact .of_eq (by simp)
  | issued h q rest rating fp front verdict =>
    rw [State.issueStroke_eq _ _ _ _ _ (by simp [front]), (State.verdict_issue verdict).footprint]
    exact State.Edited.of_modifyAll (.claimed h) footprint_inMap s.cells
  | completed h r oldest =>
    rw [State.takeComplete_eq]
    exact (State.Edited.committed (List.mem_of_head? oldest) _ _).trans (State.Edited.released r _)
  | stopped h r k stop oldest =>
    rw [State.takeHalted_eq]
    exact (State.Edited.committed (List.mem_of_head? oldest) _ _).trans (State.Edited.released r _)
  | cleared h p state =>
    rw [State.resolveAll_restore_eq]
    exact State.Edited.recordsGone (fun _ hr => hr) _
  | programmed field r refs state inMap => exact State.Edited.of_modifyAll (.programmed field r) inMap s.cells

theorem Moves.block (m : Moves s t) : t.block = s.block :=
  m.keeps (P := fun u => u.block = s.block) (fun _ _ m hs => m.block.trans hs) rfl

end

/-! #### Strokes in flight and the block (R2) -/

/-- No stroke is in flight. -/
theorem State.inFlight_eq_nil {s : State} (flight : s.FlightLaw) (h : s.blockReady = false) (g : Head) :
    (s.head g).inFlight = [] := by
  refine (State.anyInFlight_eq_false _).mp (Bool.eq_false_iff.mpr fun any => ?_) g
  simp [flight any] at h

theorem State.blockReady_of_block {s t : State} (e : t.block = s.block) : t.blockReady = s.blockReady := by
  rw [State.blockReady, e, State.blockReady]

/-- A law of every record in flight that holds whatever the record has seen and whenever it becomes overdue. -/
theorem HeadMove.forall_inFlight {Q : InFlight → Prop} {s : State} {h : Head} {hd : HeadRecord} (m : HeadMove s h hd)
    (stable : ∀ (r : InFlight) (saw : Bool) (limit : Option Nat), Q r → Q { r with sawHigh := saw, overdueLimit := limit })
    (built : ∀ q rest rating fp, (s.head h).queue = q :: rest → Admitted s h q rating fp → Q (buildRecord s h q rating))
    (hs : ∀ r ∈ (s.head h).inFlight, Q r) : ∀ r ∈ hd.inFlight, Q r := by
  have seen {hd : HeadRecord} {l : List InFlight} (hl : hd.Seen l) (hs : ∀ r ∈ hd.inFlight, Q r) : ∀ r ∈ l, Q r := by
    obtain rfl | rfl := hl
    · exact hs
    · intro r hr
      simp only [HeadRecord.markSawHigh] at hr
      split at hr
      · next e => exact hs r hr
      · next r₀ rest e =>
        obtain rfl | hr := List.mem_cons.mp hr
        · exact stable r₀ true r₀.overdueLimit (hs r₀ (e ▸ List.mem_cons_self))
        · exact hs r (e ▸ List.mem_cons_of_mem _ hr)
  have after {hd : HeadRecord} (hs : ∀ r ∈ hd.inFlight, Q r) : ∀ r ∈ hd.listAfter, Q r := by
    have rest : ∀ r ∈ hd.inFlight.tail, Q r := fun r hr => hs r (List.mem_of_mem_tail hr)
    intro r hr
    rw [HeadRecord.listAfter] at hr
    split at hr
    · cases hr
    · next r₀ more e =>
      obtain rfl | hr := List.mem_cons.mp hr
      · exact stable r₀ r₀.sawHigh _ (rest r₀ (e ▸ List.mem_cons_self))
      · exact rest r (e ▸ List.mem_cons_of_mem _ hr)
  cases m with
  | record move =>
    cases move with
    | alive => rw [HeadRecord.signOfLife_eq]; exact hs
    | monitored m l within hl => exact seen hl hs
    | placed p => rw [HeadRecord.placeAt]; exact hs
    | _ => exact hs
  | issued q rest rating fp front verdict =>
    have new := built q rest rating fp front (State.verdict_issue verdict)
    intro r hr
    obtain hr | hr := List.mem_append.mp hr
    · exact hs r hr
    · obtain rfl := List.mem_singleton.mp hr
      split
      · exact stable _ (buildRecord s h q rating).sawHigh _ new
      · exact new
  | completed r oldest => exact after hs
  | stopped r stop oldest => exact after hs
  | faulted cause issue code state ailing =>
    obtain ⟨gap, overdue, m, l, -, -, -, -, -, hl⟩ := ailing
    exact seen hl hs
  | cleared => exact fun r hr => absurd hr List.not_mem_nil
  | same | halting | flushed | held | off | refused => exact hs

/-- A stroke joins the strokes in flight only while the block is ready for it (R2, R63). -/
theorem Move.flightLaw {s t : State} (m : Move s t) (hs : s.FlightLaw) : t.FlightLaw := by
  intro any
  rw [State.blockReady_of_block m.block]
  obtain ⟨g, hg⟩ := (State.anyInFlight_iff _).mp any
  refine Classical.byContradiction fun unready => ?_
  have none := State.inFlight_eq_nil hs (Bool.eq_false_iff.mpr unready) g
  obtain ⟨r, hr⟩ := List.exists_mem_of_ne_nil _ hg
  refine (m.head g).forall_inFlight (Q := fun _ => False) (fun _ _ _ hQ => hQ) ?_ (by simp [none]) r hr
  exact fun q rest rating fp _ admitted => unready admitted.ready

theorem BlockMove.flightLaw {s t : State} (b : BlockMove s t) (hs : s.FlightLaw) : t.FlightLaw := by
  have idle {u : State} (h : u.heads = s.heads) (hi : s.anyInFlight = false) : u.FlightLaw := fun any => by
    rw [State.anyInFlight, h] at any
    rw [State.anyInFlight, any] at hi
    cases hi
  have unready (h : s.blockReady = false) : s.anyInFlight = false :=
    (State.anyInFlight_eq_false _).mpr (State.inFlight_eq_nil hs h)
  cases b with
  | begun ops pass hi => exact idle rfl hi
  | initialised state => exact idle rfl (unready (by simp [State.blockReady, state]))
  | unloading state hi => exact idle rfl hi
  | unloaded visit => exact idle rfl (unready (by simp [State.blockReady, visit]))
  | resetLow =>
    intro any
    have ready : s.blockReady = true := hs any
    rw [State.blockReady, Bool.and_eq_true] at ready
    exact Bool.and_eq_true_iff.mpr ⟨ready.1, rfl⟩
  | reset block cells heads =>
    intro any
    rw [State.anyInFlight, heads] at any
    exact absurd any (by decide)

theorem step_keeps_flightLaw {s t : State} (hs : s.FlightLaw) (ht : step s = .next t) : t.FlightLaw :=
  (step_reaches ht).keeps (P := State.FlightLaw) (fun _ _ m => m.flightLaw) (fun _ _ b => b.flightLaw) hs

/-! #### The laws of the cut map -/

theorem BlockMove.mapLaw {s t : State} (b : BlockMove s t) (hs : s.MapLaw) : t.MapLaw := by
  cases b with
  | begun | unloaded => exact CutMap.wf_nil
  | initialised | unloading | resetLow => exact hs
  | reset block cells => rw [State.MapLaw, cells]; exact CutMap.wf_nil

theorem Move.mapLaw {s t : State} (m : Move s t) (hs : s.MapLaw) : t.MapLaw := by
  rw [State.MapLaw, m.block]
  exact m.edited.wf hs

/-- No edit raises a kerf floor or clears an unsure mark (R6, R7). -/
theorem Cell.Edit.falls {f : Cell → Cell} (edit : Cell.Edit f) (x : Cell) :
    (f x).kerfFloor ≤ x.kerfFloor ∧ (x.unsure = true → (f x).unsure = true) := by
  cases edit with
  | claimed | released => exact ⟨Nat.le_refl _, id⟩
  | committed z => exact ⟨Nat.min_le_left _ _, id⟩
  | resolved z =>
    rw [Cell.resolve]
    split
    · next h => exact ⟨Nat.le_of_lt h, fun _ => rfl⟩
    · exact ⟨Nat.le_refl _, id⟩
  | programmed field r => cases field <;> exact ⟨Nat.le_refl _, id⟩

/-- An edit that marks a cell unsure lowers its kerf floor (R137). -/
theorem Cell.Edit.unsure {f : Cell → Cell} (edit : Cell.Edit f) (x : Cell) (h : (f x).unsure = true) :
    x.unsure = true ∨ (f x).kerfFloor < x.kerfFloor := by
  cases edit with
  | claimed | released | committed => exact .inl h
  | resolved z =>
    rw [Cell.resolve] at h ⊢
    split
    · next hz => exact .inr hz
    · next hz => exact .inl (by rwa [if_neg hz] at h)
  | programmed field r => cases field <;> exact .inl h

theorem Move.kerfLaw {s t : State} (m : Move s t) (hs : s.KerfLaw) : t.KerfLaw := by
  intro e he
  rw [m.block]
  refine m.edited.forall_cells (P := fun _ x => x.kerfFloor ≤ s.block.top ∧ (x.unsure = true → x.kerfFloor < s.block.top))
    (fun _ _ => ⟨Nat.le_refl _, nofun⟩) (fun f c x edit _ hx => ?_) hs e he
  obtain ⟨top, cut⟩ := hx
  have falls := (edit.falls x).1
  refine ⟨Nat.le_trans falls top, fun h => ?_⟩
  obtain h | h := edit.unsure x h
  · exact Nat.lt_of_le_of_lt falls (cut h)
  · exact Nat.lt_of_lt_of_le h top

theorem BlockMove.kerfLaw {s t : State} (b : BlockMove s t) (hs : s.KerfLaw) : t.KerfLaw := by
  cases b with
  | begun | unloaded => exact fun e he => absurd he List.not_mem_nil
  | initialised | unloading | resetLow => exact hs
  | reset block cells => rw [State.KerfLaw, cells]; exact fun e he => absurd he List.not_mem_nil

/-- Each cell of t stands no higher than in s and has every unsure mark of s. -/
abbrev CellsFall (s t : State) : Prop :=
  ∀ c : CellRef, (t.cell c).kerfFloor ≤ (s.cell c).kerfFloor ∧ ((s.cell c).unsure = true → (t.cell c).unsure = true)

theorem CellsFall.trans {s t u : State} (a : CellsFall s t) (b : CellsFall t u) : CellsFall s u := fun c =>
  ⟨Nat.le_trans (b c).1 (a c).1, fun h => (b c).2 ((a c).2 h)⟩

theorem CellsFall.of_eq {s t : State} (top : t.block.top = s.block.top) (cells : t.cells = s.cells) : CellsFall s t :=
  fun c => by rw [State.cell, State.cell, top, cells]; exact ⟨Nat.le_refl _, id⟩

theorem Move.cellsFall {s t : State} (m : Move s t) (hs : s.MapLaw) : CellsFall s t := fun c => by
  rw [State.cell, State.cell, m.block]
  exact m.edited.read (R := fun x y => y.kerfFloor ≤ x.kerfFloor ∧ (x.unsure = true → y.unsure = true)) hs
    (fun _ => ⟨Nat.le_refl _, id⟩) (fun f x y edit hxy => ⟨Nat.le_trans (edit.falls y).1 hxy.1, fun h => (edit.falls y).2 (hxy.2 h)⟩) _

theorem Moves.cellsFall {s t : State} (m : Moves s t) (hs : s.MapLaw) : t.MapLaw ∧ CellsFall s t :=
  m.keeps (P := fun u => u.MapLaw ∧ CellsFall s u) (fun _ _ m hu => ⟨m.mapLaw hu.1, hu.2.trans (m.cellsFall hu.1)⟩)
    ⟨hs, .of_eq rfl rfl⟩

/-- A change of the block that ends LOADED leaves the cells. -/
theorem BlockMove.cellsFall {s t : State} (b : BlockMove s t) (ht : t.block.state = .loaded) :
    CellsFall s t := by
  cases b with
  | begun => exact absurd (show BlockState.initialising = .loaded from ht) nofun
  | initialised | unloading | resetLow => exact .of_eq rfl rfl
  | unloaded => exact absurd (show BlockState.noBlock = .loaded from ht) nofun
  | reset block => rw [block] at ht; exact absurd (show BlockState.noBlock = .loaded from ht) nofun

/-- While the block stays LOADED no step raises a kerf floor or clears an unsure mark (R6, R7). -/
theorem step_cellsFall {s t : State} (hm : s.MapLaw) (h : step s = .next t)
    (ht : t.block.state = .loaded) : CellsFall s t := by
  obtain ⟨u, v, hu, change, hv⟩ := step_reaches h
  obtain ⟨mapU, fallU⟩ := hu.cellsFall hm
  obtain rfl | b := change
  · exact fallU.trans (hv.cellsFall mapU).2
  · have between := b.cellsFall (by rwa [hv.block] at ht)
    exact fallU.trans (between.trans (hv.cellsFall (b.mapLaw mapU)).2)

/-! #### The cells that the strokes in flight cross -/

/-- The path cells of a stroke with both ends in the block lie in the map (R9, R40). -/
theorem path_inMap {b : BlockRecord} {st : Stroke} (start : inBlock b st.start = true)
    (finish : inBlock b st.finish = true) {p : PathCell} (hp : p ∈ path b st) : p.cell.inMap b = true := by
  obtain ⟨i, hi, rfl⟩ := (mem_path b st).mp hp
  obtain ⟨-, column, -, row, -⟩ := pathCell_between b st hi
  simp only [inBlock, CellRef.inMap, Bool.and_eq_true, decide_eq_true_eq] at start finish ⊢
  omega

theorem State.BlockLaw.columns_le {s : State} (hs : s.BlockLaw) : s.block.columns ≤ 256 := by
  obtain ⟨reset, loaded, -⟩ := hs
  by_cases h : s.block.state = .noBlock
  · rw [reset h]; decide
  · have := (loaded h).1
    simp only [inRange, Bool.and_eq_true, decide_eq_true_eq] at this
    exact this.2

theorem loadRecord_columns {ops : LoadBlockOps} (pass : loadPasses ops = true) : (loadRecord ops).columns ≤ 256 := by
  simp only [loadPasses, inRange, Bool.and_eq_true, decide_eq_true_eq] at pass
  exact pass.1.1.1.1.1.2

theorem BlockMove.columns_le {s t : State} (b : BlockMove s t) (hs : s.block.columns ≤ 256) :
    t.block.columns ≤ 256 := by
  cases b with
  | begun ops pass => exact loadRecord_columns pass
  | initialised | unloading | resetLow => exact hs
  | unloaded => exact Nat.zero_le _
  | reset block => rw [block]; exact Nat.zero_le _

/-- What the places of the cut map rest on: the strokes in flight lie in the block, and at most 256 columns keep the
addresses of different cells apart. -/
structure State.Placed (s : State) : Prop where
  columns : s.block.columns ≤ 256
  flight : s.FlightLaw
  inBlock : s.FlightInBlock
  entries : s.EntriesLaw

theorem State.Placed.writes {s : State} (hs : s.Placed) {c : CellRef} (hc : s.Writes c) :
    c.address % 256 < s.block.columns ∧ c.address / 256 < s.block.rows := by
  have inMap : c.inMap s.block = true := by
    obtain inMap | ⟨h, r, hr, p, hp, rfl⟩ := hc
    · exact inMap
    · obtain ⟨start, finish, -⟩ := hs.inBlock h r hr
      exact path_inMap start finish hp
  have := hs.columns
  simp only [CellRef.inMap, Bool.and_eq_true, decide_eq_true_eq, CellRef.address] at inMap ⊢
  omega

theorem Move.placed {s t : State} (m : Move s t) (hs : s.Placed) : t.Placed := by
  refine ⟨m.block ▸ hs.columns, m.flightLaw hs.flight, fun h r hr => ?_, fun e he => ?_⟩
  · rw [m.block]
    refine (m.head h).forall_inFlight (Q := fun r => Machine.inBlock s.block r.stroke.start = true ∧
      Machine.inBlock s.block r.stroke.finish = true ∧ r.pathLength = pathLength s.block r.stroke)
      (fun _ _ _ hQ => hQ) (fun q rest rating fp _ admitted => ?_) (hs.inBlock h) r hr
    exact ⟨admitted.startInside, admitted.finishInside, rfl⟩
  · rw [m.block]
    exact m.edited.forall_cells (P := fun k _ => k % 256 < s.block.columns ∧ k / 256 < s.block.rows)
      (fun _ hc => hs.writes hc) (fun _ _ _ _ _ hx => hx) hs.entries e he

theorem BlockMove.placed {s t : State} (b : BlockMove s t) (hs : s.Placed) : t.Placed := by
  have unready (h : s.blockReady = false) (g : Head) (r : InFlight) : r ∉ (s.head g).inFlight := by
    rw [State.inFlight_eq_nil hs.flight h g]
    exact List.not_mem_nil
  refine ⟨b.columns_le hs.columns, b.flightLaw hs.flight, ?_, ?_⟩
  · cases b with
    | begun ops pass idle =>
      intro g r hr
      have : r ∈ (s.head g).inFlight := hr
      simp [(State.anyInFlight_eq_false _).mp idle g] at this
    | initialised | unloading | resetLow => exact hs.inBlock
    | unloaded visit => exact fun g r hr => absurd hr (unready (by simp [State.blockReady, visit]) g r)
    | reset block cells heads =>
      intro g r hr
      have : (t.head g) = State.reset.head g := State.head_of_heads (s := State.reset) g heads
      rw [this, State.head, State.reset, get_eq_getElem_val, Vector.getElem_replicate] at hr
      cases hr
  · cases b with
    | begun | unloaded => exact fun e he => absurd he List.not_mem_nil
    | initialised | unloading | resetLow => exact hs.entries
    | reset block cells => rw [State.EntriesLaw, cells]; exact fun e he => absurd he List.not_mem_nil

/-! #### The initialisation visit (R16, R62) -/

/-- While the block is INITIALISING no occasion is kept. -/
theorem Move.occasions {s t : State} (m : Move s t) (hi : s.block.state = .initialising) (hs : s.occasions = []) :
    t.occasions = [] := by
  have kept (l : List Occasion) : s.kept l = [] := by rw [State.kept, if_pos hi]
  have wait (h : Head) : s.passAfterWait h = [] := by rw [State.passAfterWait, kept, ite_self]
  cases m with
  | aside _ _ _ _ _ _ occasions => exact occasions hi hs
  | record | halting | waiting | programmed => simpa using hs
  | flushed h => rw [State.flush_eq]; simp [hs, wait]
  | held h =>
    rw [State.enterHeld_eq]
    exact List.append_eq_nil_iff.mpr ⟨hs, wait h⟩
  | off h =>
    rw [State.enterOff_eq]
    exact List.append_eq_nil_iff.mpr ⟨hs, wait h⟩
  | refused => rw [State.refuseStroke_eq]; simp [hs, kept]
  | issued h q rest rating fp front =>
    rw [State.issueStroke_eq _ _ _ _ _ (by simp [front])]
    simp [State.issuedAround, hs, kept]
  | completed h r =>
    rw [State.takeComplete_eq]
    exact List.append_eq_nil_iff.mpr ⟨hs, kept _⟩
  | stopped h r k =>
    rw [State.takeHalted_eq]
    exact List.append_eq_nil_iff.mpr ⟨hs, kept _⟩
  | faulted h =>
    rw [State.enterFault_eq]
    exact List.append_eq_nil_iff.mpr ⟨hs, wait h⟩
  | cleared h =>
    rw [State.resolveAll_restore_eq]
    exact List.append_eq_nil_iff.mpr ⟨hs, kept _⟩

/-- While the block is INITIALISING no cell is listed: no stroke is in flight, none is issued, no span is written. -/
theorem Move.cells {s t : State} (m : Move s t) (flight : s.FlightLaw) (hi : s.block.state = .initialising)
    (hs : s.cells = []) : t.cells = [] := by
  have unready : s.blockReady = false := by simp [State.blockReady, hi]
  have none := State.inFlight_eq_nil flight unready
  cases m with
  | aside block cells => exact cells.trans hs
  | record | halting | waiting | flushed => simpa using hs
  | held => rw [State.enterHeld_eq]; exact hs
  | off => rw [State.enterOff_eq]; exact hs
  | refused => rw [State.refuseStroke_eq]; exact hs
  | faulted => simpa using hs
  | issued h q rest rating fp front verdict => simp [(State.verdict_issue verdict).ready] at unready
  | completed h r oldest => simp [none h] at oldest
  | stopped h r k stop oldest => simp [none h] at oldest
  | cleared h p => rw [State.resolveAll_restore_eq, none h]; exact hs
  | programmed field r refs state => rw [state] at hi; cases hi

theorem Move.visitLaw {s t : State} (m : Move s t) (flight : s.FlightLaw) (hs : s.VisitLaw) : t.VisitLaw := by
  intro hi
  rw [m.block] at hi
  obtain ⟨cells, occasions⟩ := hs hi
  exact ⟨m.cells flight hi cells, m.occasions hi occasions⟩

theorem BlockMove.visitLaw {s t : State} (b : BlockMove s t) (hs : s.VisitLaw) : t.VisitLaw := by
  cases b with
  | begun => exact fun _ => ⟨rfl, rfl⟩
  | initialised => exact nofun
  | unloading => exact hs
  | unloaded => exact nofun
  | resetLow => exact fun hi => ⟨(hs hi).1, rfl⟩
  | reset block cells heads waitList occasions => exact fun _ => ⟨cells, occasions⟩

/-- Settles O55: every step is a chain of moves; a move edits the cut map cell by cell, and no edit raises a kerf floor. -/
theorem stepKeepsTheCutMap : Obligations.StepKeepsTheCutMap := by
  refine ⟨⟨fun s t hs ht => ?_, fun s t hs ht => ?_⟩, fun s t hm _ ht ht' => step_cellsFall hm ht ht',
    fun s t hb hf _ hi he ht => ?_, fun s t hf hs ht => ?_⟩
  · exact (step_reaches ht).keeps (P := State.MapLaw) (fun _ _ m => m.mapLaw) (fun _ _ b => b.mapLaw) hs
  · exact (step_reaches ht).keeps (P := State.KerfLaw) (fun _ _ m => m.kerfLaw) (fun _ _ b => b.kerfLaw) hs
  · have placed : t.Placed := (step_reaches ht).keeps (P := State.Placed) (fun _ _ m => m.placed)
      (fun _ _ b => b.placed) ⟨hb.columns_le, hf, hi, he⟩
    exact ⟨placed.inBlock, placed.entries⟩
  · exact ((step_reaches ht).keeps (P := fun s => s.FlightLaw ∧ s.VisitLaw)
      (fun _ _ m hs => ⟨m.flightLaw hs.1, m.visitLaw hs.1 hs.2⟩)
      (fun _ _ b hs => ⟨b.flightLaw hs.1, b.visitLaw hs.2⟩) ⟨hf, hs⟩).2

end Sys2Proof.Machine

/-! ### The claim table (R45, R46, R47) -/

namespace Sys2Proof.Machine

open Sys2Proof.Laws

/-! #### One cell -/

/-- The claims on a cell: the owner alone has strokes over it, the count is their number, and a count of 0 goes with
no owner (R45). -/
def Claims (n : Head → Nat) (x : Cell) : Prop :=
  (∀ h, n h = if x.owner = some h then x.count else 0) ∧ (x.owner = none ↔ x.count = 0)

theorem State.claimsOf_iff {s : State} {c : CellRef} :
    s.ClaimsOf c ↔ Claims (fun h => s.claimsOn h c) (s.cell c) := .rfl

section
variable {n n' : Head → Nat} {x y : Cell} {h : Head}

theorem Claims.congr (hx : Claims n x) (hn : ∀ g, n' g = n g) (owner : y.owner = x.owner) (count : y.count = x.count) :
    Claims n' y := by
  rwa [Claims, funext hn, owner, count]

/-- A claim on a cell that no other head has claimed (R46, R78). -/
theorem Claims.claimBy (hx : Claims n x) (free : x.claimedByOther h = false)
    (hn : ∀ g, n' g = if g = h then n h + 1 else n g) : Claims n' (x.claimBy h) := by
  obtain ⟨own, none⟩ := hx
  have mine : x.owner = Option.none ∨ x.owner = some h := by
    rw [Cell.claimedByOther] at free
    cases hw : x.owner with
    | none => exact .inl rfl
    | some g =>
      simp only [hw, Bool.and_eq_false_iff, bne_eq_false_iff_eq, decide_eq_false_iff_not] at free
      have counted : ¬ x.count = 0 := fun e => by simp [hw] at none; exact none e
      exact .inr (congrArg some (free.resolve_right (by omega)))
  refine ⟨fun g => ?_, by simp [Cell.claimBy]⟩
  rw [hn g, own h, own g]
  by_cases hg : g = h
  · obtain mine | mine := mine
    · simp [Cell.claimBy, mine, hg, none.mp mine]
    · simp [Cell.claimBy, mine, hg]
  · obtain mine | mine := mine <;> simp [Cell.claimBy, mine, hg, Ne.symm hg]

/-- The release of a claim that its head has (R47). -/
theorem Claims.release (hx : Claims n x) (has : 0 < n h) (hn : ∀ g, n' g = if g = h then n h - 1 else n g) :
    Claims n' x.release := by
  obtain ⟨own, none⟩ := hx
  have mine : x.owner = some h := by
    refine Classical.byContradiction fun hw => ?_
    rw [own h, if_neg hw] at has
    omega
  have count : n h = x.count := by rw [own h, if_pos mine]
  refine ⟨fun g => ?_, ?_⟩
  · rw [hn g, own g, count, Cell.release]
    by_cases hg : g = h
    · by_cases h0 : x.count - 1 = 0 <;> simp [hg, mine, h0]
    · by_cases h0 : x.count - 1 = 0 <;> simp [hg, mine, h0, Ne.symm hg]
  · simp only [Cell.release]
    split <;> simp_all

end

/-! #### Edits that leave the claims -/

/-- Edits that leave the claims of every cell leave those of a map (R91, R137). -/
theorem read_foldl_claims {α : Type} {top k : Nat} {f : α → Cell → Cell} {address : α → Nat}
    (hf : ∀ a x, (f a x).owner = x.owner ∧ (f a x).count = x.count) (l : List α) {m : CutMap} (hm : CutMap.wf top m) :
    CutMap.wf top (l.foldl (fun m a => CutMap.modify top (f a) (address a) m) m) ∧
      (CutMap.read top (l.foldl (fun m a => CutMap.modify top (f a) (address a) m) m) k).owner =
        (CutMap.read top m k).owner ∧
      (CutMap.read top (l.foldl (fun m a => CutMap.modify top (f a) (address a) m) m) k).count =
        (CutMap.read top m k).count := by
  induction l generalizing m with
  | nil => exact ⟨hm, rfl, rfl⟩
  | cons a l ih =>
    obtain ⟨wf, owner, count⟩ := ih (m := CutMap.modify top (f a) (address a) m) (CutMap.wf_modify hm)
    have first := CutMap.read_modify (f := f a) (k := address a) (j := k) hm
    refine ⟨wf, owner.trans ?_, count.trans ?_⟩
    · rw [first]; split
      · exact (hf a _).1
      · rfl
    · rw [first]; split
      · exact (hf a _).2
      · rfl

theorem Cell.commit_claims (z : Nat) (x : Cell) : (x.commit z).owner = x.owner ∧ (x.commit z).count = x.count :=
  ⟨rfl, rfl⟩

theorem Cell.resolve_claims (z : Nat) (x : Cell) : (x.resolve z).owner = x.owner ∧ (x.resolve z).count = x.count := by
  rw [Cell.resolve]
  split <;> exact ⟨rfl, rfl⟩

theorem Cell.program_claims (field : SpanField) (r : SourceRecord) (x : Cell) :
    (x.program field r).owner = x.owner ∧ (x.program field r).count = x.count := by
  cases field <;> exact ⟨rfl, rfl⟩

section
variable {s : State} {m : CutMap} (hm : CutMap.wf s.block.top m)

include hm

theorem State.cellsCommitted_claims (r : InFlight) (k a : Nat) : CutMap.wf s.block.top (s.cellsCommitted r k m) ∧
    (CutMap.read s.block.top (s.cellsCommitted r k m) a).owner = (CutMap.read s.block.top m a).owner ∧
    (CutMap.read s.block.top (s.cellsCommitted r k m) a).count = (CutMap.read s.block.top m a).count := by
  rw [State.cellsCommitted]
  split
  · exact ⟨hm, rfl, rfl⟩
  · exact read_foldl_claims (f := fun p => Cell.commit p.height) (address := fun p : PathCell => p.cell.address)
      (fun p => Cell.commit_claims p.height) _ hm

theorem State.cellsResolved_claims (r : InFlight) (a : Nat) : CutMap.wf s.block.top (s.cellsResolved r m) ∧
    (CutMap.read s.block.top (s.cellsResolved r m) a).owner = (CutMap.read s.block.top m a).owner ∧
    (CutMap.read s.block.top (s.cellsResolved r m) a).count = (CutMap.read s.block.top m a).count := by
  rw [State.cellsResolved]
  split
  · exact ⟨hm, rfl, rfl⟩
  · exact read_foldl_claims (f := fun p => Cell.resolve p.height) (address := fun p : PathCell => p.cell.address)
      (fun p => Cell.resolve_claims p.height) _ hm

/-- Each cell of a footprint is changed once and every other cell of the map stays (R43). -/
theorem read_modifyAll_footprint (columns : s.block.columns ≤ 256) (f : Cell → Cell) (st : Stroke) (g : Nat)
    {c : CellRef} (hc : c.column < 256) :
    CutMap.read s.block.top (CutMap.modifyAll s.block.top f (footprint s.block st g) m) c.address =
      if c ∈ footprint s.block st g then f (CutMap.read s.block.top m c.address)
      else CutMap.read s.block.top m c.address := by
  have narrow {x : CellRef} (hx : x ∈ footprint s.block st g) : x.column < 256 :=
    Nat.lt_of_lt_of_le ((mem_footprint s.block st).mp hx).1 columns
  have apart : ((footprint s.block st g).map CellRef.address).Nodup :=
    nodup_map_of_inj (footprint_nodup s.block st g) fun x hx y hy e => CutMap.address_inj (narrow hx) (narrow hy) e
  rw [CutMap.read_modifyAll hm apart]
  have : c.address ∈ (footprint s.block st g).map CellRef.address ↔ c ∈ footprint s.block st g := by
    refine ⟨fun h => ?_, fun h => List.mem_map_of_mem h⟩
    obtain ⟨x, hx, e⟩ := List.mem_map.mp h
    exact CutMap.address_inj (narrow hx) hc e ▸ hx
  simp only [this]

end

/-! #### The strokes over a cell -/

/-- The number of the records of a list whose footprint holds a cell (R45). -/
def covering (b : BlockRecord) (c : CellRef) (l : List InFlight) : Nat :=
  l.countP fun r => (footprint b r.stroke r.guard).contains c

section
variable {b : BlockRecord} {c : CellRef}

theorem covering_cons (r : InFlight) (l : List InFlight) :
    covering b c (r :: l) = covering b c l + if c ∈ footprint b r.stroke r.guard then 1 else 0 := by
  simp [covering, List.countP_cons]

theorem covering_append (l l' : List InFlight) : covering b c (l ++ l') = covering b c l + covering b c l' :=
  List.countP_append

theorem covering_seen {hd : HeadRecord} {l : List InFlight} (seen : hd.Seen l) :
    covering b c l = covering b c hd.inFlight := by
  obtain rfl | rfl := seen
  · rfl
  · rw [HeadRecord.markSawHigh]
    split
    · rfl
    · next r rest e => rw [e, covering_cons, covering_cons]

theorem covering_listAfter (hd : HeadRecord) : covering b c hd.listAfter = covering b c hd.inFlight.tail := by
  rw [HeadRecord.listAfter]
  split
  · next e => rw [e]
  · next e => rw [e, covering_cons, covering_cons]

/-- A change of a record that neither issues a stroke nor ends one leaves the strokes over a cell. -/
theorem RecordMove.covering {h : Head} {hd hd' : HeadRecord} (m : RecordMove h hd hd') :
    covering b c hd'.inFlight = covering b c hd.inFlight := by
  cases m with
  | alive => rw [HeadRecord.signOfLife_eq]
  | monitored m l within seen => exact covering_seen seen
  | placed p => rfl
  | _ => rfl

end

/-! #### Moves keep the claims -/

/-- The map is canonical, narrow enough to keep the addresses apart, and its claims are right. -/
structure State.Claimed (s : State) : Prop where
  columns : s.block.columns ≤ 256
  map : s.MapLaw
  claims : s.ClaimsLaw

section
variable {s u : State} {h : Head}

/-- The claims after a change of one record and of the cut map. -/
theorem State.claims_modHead {f : HeadRecord → HeadRecord} (block : u.block = s.block) (heads : u.heads = s.heads)
    (cells : ∀ c : CellRef, c.row < s.block.rows → c.column < s.block.columns → ∀ n : Head → Nat,
      (∀ g, n g = if g = h then covering s.block c (f (s.head h)).inFlight else s.claimsOn g c) →
      Claims n (CutMap.read s.block.top u.cells c.address)) : (u.modHead h f).ClaimsLaw := by
  intro row hrow column hcolumn
  have hb : (u.modHead h f).block = s.block := block
  rw [hb] at hrow hcolumn
  refine (cells ⟨column, row⟩ hrow hcolumn (fun g => (u.modHead h f).claimsOn g ⟨column, row⟩) fun g => ?_).congr
    (fun _ => rfl) ?_ ?_
  · show covering (u.modHead h f).block _ ((u.modHead h f).head g).inFlight = _
    rw [hb, State.head_modHead, State.head_of_heads g heads]
    split
    · next e => subst e; rfl
    · rfl
  · rw [State.cell, hb]; rfl
  · rw [State.cell, hb]; rfl

/-- The claims stay when the cells stay and each head keeps the strokes over every cell. -/
theorem State.claims_of_covering {t : State} (hs : s.ClaimsLaw) (block : t.block = s.block) (cells : t.cells = s.cells)
    (same : ∀ g c, covering s.block c (t.head g).inFlight = covering s.block c (s.head g).inFlight) : t.ClaimsLaw := by
  intro row hrow column hcolumn
  rw [block] at hrow hcolumn
  refine Claims.congr (hs row hrow column hcolumn) (fun g => ?_) ?_ ?_
  · show covering t.block _ _ = _
    rw [block]
    exact same g _
  · rw [State.cell, State.cell, block, cells]
  · rw [State.cell, State.cell, block, cells]

/-- An issue claims the footprint of its stroke (R46). -/
theorem State.Claimed.issued (hs : s.Claimed) {q : QueuedStroke} {rest : List QueuedStroke} {rating : Rating}
    {fp : List CellRef} (front : (s.head h).queue = q :: rest) (passed : Admitted s h q rating fp) :
    (s.issueStroke h q rating fp).ClaimsLaw := by
  rw [State.issueStroke_eq _ _ _ _ _ (by simp [front])]
  refine State.claims_modHead (s := s) rfl rfl fun c hrow hcolumn n hn => ?_
  have before : Claims (fun g => s.claimsOn g c) (s.cell c) := hs.claims c.row hrow c.column hcolumn
  have longer : covering s.block c ((s.head h).strokeIssued q (buildRecord s h q rating)).inFlight =
      s.claimsOn h c + if c ∈ fp then 1 else 0 := by
    rw [HeadRecord.strokeIssued, covering_append, passed.footprint]
    congr 1
    split <;> simp [covering, buildRecord]
  show Claims n (CutMap.read s.block.top (CutMap.modifyAll s.block.top (Cell.claimBy h) fp s.cells) c.address)
  rw [longer] at hn
  rw [passed.footprint, read_modifyAll_footprint hs.map hs.columns _ _ _ (Nat.lt_of_lt_of_le hcolumn hs.columns),
    ← passed.footprint]
  split
  · next hc => exact before.claimBy (passed.unclaimed c hc) fun g => by simp [hn g, hc]
  · next hc =>
    refine before.congr (fun g => ?_) rfl rfl
    rw [hn g, if_neg hc, Nat.add_zero]
    split
    · next e => rw [e]
    · rfl

/-- The release of the oldest record's claims, on a map whose claims are those of the list with it (R47). -/
theorem Claims.released {m : CutMap} (columns : s.block.columns ≤ 256) (hm : CutMap.wf s.block.top m) {r : InFlight}
    {l : List InFlight} {c : CellRef} (hc : c.column < s.block.columns) {n n' : Head → Nat}
    (hx : Claims n (CutMap.read s.block.top m c.address)) (hn : n h = covering s.block c (r :: l))
    (hn' : ∀ g, n' g = if g = h then covering s.block c l else n g) :
    Claims n' (CutMap.read s.block.top (s.cellsReleased r m) c.address) := by
  rw [State.cellsReleased, State.recordFootprint,
    read_modifyAll_footprint hm columns _ _ _ (Nat.lt_of_lt_of_le hc columns)]
  rw [covering_cons] at hn
  split
  · next held =>
    rw [if_pos held] at hn
    exact hx.release (h := h) (by omega) fun g => by rw [hn' g, hn, Nat.add_sub_cancel]
  · next free =>
    rw [if_neg free, Nat.add_zero] at hn
    refine hx.congr (fun g => ?_) rfl rfl
    rw [hn' g]
    split
    · next e => rw [e, hn]
    · rfl

/-- A report releases the claims of the oldest record (R47, R92, R94). -/
theorem State.Claimed.reported (hs : s.Claimed) {r : InFlight} {k : Nat} {f : HeadRecord → HeadRecord}
    (oldest : (s.head h).inFlight.head? = some r) (block : u.block = s.block) (heads : u.heads = s.heads)
    (cells : u.cells = s.cellsReleased r (s.cellsCommitted r k s.cells))
    (list : (f (s.head h)).inFlight = (s.head h).listAfter) : (u.modHead h f).ClaimsLaw := by
  refine State.claims_modHead block heads fun c hrow hcolumn n hn => ?_
  obtain ⟨wf, owner, count⟩ := State.cellsCommitted_claims hs.map r k c.address
  have before : Claims (fun g => s.claimsOn g c)
      (CutMap.read s.block.top (s.cellsCommitted r k s.cells) c.address) :=
    Claims.congr (hs.claims c.row hrow c.column hcolumn) (fun _ => rfl) owner count
  rw [cells]
  refine before.released hs.columns wf hcolumn (h := h) (l := (s.head h).inFlight.tail) ?_ fun g => ?_
  · rw [← eq_cons_of_head? oldest]; rfl
  · rw [hn g, list, covering_listAfter]

/-- The resolution of records releases the claims of each (R47, R137). -/
theorem Claims.resolved (columns : s.block.columns ≤ 256) {c : CellRef} (hc : c.column < s.block.columns)
    (l : List InFlight) {m : CutMap} (hm : CutMap.wf s.block.top m) {n n' : Head → Nat}
    (hx : Claims n (CutMap.read s.block.top m c.address)) (hn : n h = covering s.block c l)
    (hn' : ∀ g, n' g = if g = h then 0 else n g) :
    Claims n' (CutMap.read s.block.top (l.foldl (fun m r => s.cellsReleased r (s.cellsResolved r m)) m) c.address) := by
  induction l generalizing m n with
  | nil =>
    refine hx.congr (fun g => ?_) rfl rfl
    rw [hn' g]
    split
    · next e => rw [e, hn]; rfl
    · rfl
  | cons r l ih =>
    obtain ⟨wf, owner, count⟩ := State.cellsResolved_claims hm r c.address
    have next := (hx.congr (fun _ => rfl) owner count).released columns wf hc (h := h) (l := l) hn fun _ => rfl
    refine ih (State.Edited.wf (s := s) (State.Edited.released r _) wf) next (if_pos rfl) fun g => ?_
    rw [hn' g]
    split <;> rfl

/-- A CLEAR_HEAD releases the claims of every record (R137). -/
theorem State.Claimed.cleared (hs : s.Claimed) (p : Point) :
    ((s.resolveAll h).modHead h (HeadRecord.restore p)).ClaimsLaw := by
  rw [State.resolveAll_restore_eq]
  refine State.claims_modHead (s := s) rfl rfl fun c hrow hcolumn n hn => ?_
  exact Claims.resolved (h := h) hs.columns hcolumn (s.head h).inFlight hs.map
    (hs.claims c.row hrow c.column hcolumn) rfl hn

/-- A SPAN_WRITE leaves the claims (R147). -/
theorem State.Claimed.programmed (hs : s.Claimed) (field : SpanField) (r : SourceRecord) (refs : List CellRef) :
    (s.modCells (Cell.program field r) refs).ClaimsLaw := by
  intro row hrow column hcolumn
  obtain ⟨-, owner, count⟩ := read_foldl_claims (k := (⟨column, row⟩ : CellRef).address)
    (f := fun _ : CellRef => Cell.program field r) (address := CellRef.address) (fun _ => Cell.program_claims field r)
    refs hs.map
  exact Claims.congr (hs.claims row hrow column hcolumn) (fun _ => rfl) owner count

theorem Move.claimsLaw {t : State} (m : Move s t) (hs : s.Claimed) : t.ClaimsLaw := by
  have oneHead {f : HeadRecord → HeadRecord} {u : State} {h : Head} (block : u.block = s.block)
      (heads : u.heads = s.heads) (cells : u.cells = s.cells)
      (same : ∀ c, covering s.block c (f (s.head h)).inFlight = covering s.block c (s.head h).inFlight) :
      (u.modHead h f).ClaimsLaw := by
    refine State.claims_of_covering hs.claims block cells fun g c => ?_
    rw [State.head_modHead, State.head_of_heads g heads]
    split
    · next e => subst e; exact same c
    · rfl
  cases m with
  | aside block cells heads =>
    exact State.claims_of_covering hs.claims block cells fun g _ => by rw [State.head_of_heads g heads]
  | record h move => exact oneHead (f := fun _ => _) rfl rfl rfl fun _ => move.covering
  | halting h => rw [State.requestHalt_eq]; exact oneHead (by simp) (by simp) (by simp) fun _ => rfl
  | waiting h fp =>
    exact State.claims_of_covering hs.claims (State.recordWait_block ..) (State.recordWait_cells ..) fun _ _ => by
      rw [State.head_recordWait]
  | flushed h => rw [State.flush_eq]; exact oneHead (by simp) (by simp) (by simp) fun _ => rfl
  | held h => rw [State.enterHeld_eq]; exact oneHead (by simp) (by simp) (by simp) fun _ => rfl
  | off h => rw [State.enterOff_eq]; exact oneHead (by simp) (by simp) (by simp) fun _ => rfl
  | refused h => rw [State.refuseStroke_eq]; exact oneHead (by simp) (by simp) (by simp) fun _ => rfl
  | issued h q rest rating fp front verdict => exact hs.issued front (State.verdict_issue verdict)
  | completed h r oldest =>
    rw [State.takeComplete_eq]
    refine hs.reported (k := r.pathLength + 1) oldest ?_ ?_ ?_ ?_
    · simp
    · simp
    · simp
    · rfl
  | stopped h r k stop oldest =>
    rw [State.takeHalted_eq]
    refine hs.reported (k := k) oldest ?_ ?_ ?_ ?_
    · simp
    · simp
    · simp
    · rfl
  | faulted h cause issue code state ailing =>
    refine State.claims_of_covering hs.claims (by simp) (by simp) fun g c => ?_
    rw [State.enterFault_head]
    split
    · next e =>
      subst e
      rw [State.head_setHead_same]
      obtain ⟨gap, overdue, m, l, -, -, -, -, -, seen⟩ := ailing
      exact covering_seen seen
    · next e => rw [State.head_setHead_other _ _ _ e]
  | cleared h p => exact hs.cleared p
  | programmed field r refs => exact hs.programmed field r refs

theorem BlockMove.claimsLaw {t : State} (b : BlockMove s t) (hs : s.ClaimsLaw) : t.ClaimsLaw := by
  have noRows {b : BlockRecord} (e : b.rows = 0) (row : Nat) : ¬ row < b.rows := by omega
  cases b with
  | begun ops pass idle =>
    intro row _ column _
    refine ⟨fun g => ?_, by simp [State.cell, State.beginBlock, CutMap.read, Cell.fresh]⟩
    have none : (s.head g).inFlight = [] := (State.anyInFlight_eq_false s).mp idle g
    show covering _ _ (s.head g).inFlight = _
    simp [none, covering, State.cell, State.beginBlock, CutMap.read, Cell.fresh]
  | initialised | unloading | resetLow => exact hs
  | unloaded => exact fun row hrow => absurd hrow (noRows rfl row)
  | reset block => exact fun row hrow => absurd hrow (noRows (by rw [block]; rfl) row)

end

/-- Settles O53: an issue claims a footprint that no other head has claimed; a report or a clear releases it. -/
theorem stepKeepsClaimsLaw : Obligations.StepKeepsClaimsLaw := fun _ _ hb hm _ hs ht =>
  ((step_reaches ht).keeps (P := State.Claimed)
    (fun _ _ m hs => ⟨m.block ▸ hs.columns, m.mapLaw hs.map, m.claimsLaw hs⟩)
    (fun _ _ b hs => ⟨b.columns_le hs.columns, b.mapLaw hs.map, b.claimsLaw hs.claims⟩) ⟨hb.columns_le, hm, hs⟩).claims

end Sys2Proof.Machine

/-! ### The drive transmit queue (R88, R89) -/

namespace Sys2Proof.Machine

/-! #### Lists of drive frames -/

/-- The issue number of an ISSUE frame of head h. -/
def DriveFrame.issueOf (h : Head) : DriveFrame → Option Byte
  | .issue g num _ _ _ _ _ _ => if g = h then some num else none
  | .halt _ => none

/-- The issue numbers of the ISSUE frames of head h in a list of drive frames, in their order. -/
def issuesOf (h : Head) (q : List DriveFrame) : List Byte := q.filterMap (DriveFrame.issueOf h)

theorem State.waitingIssues_eq (s : State) (h : Head) : s.waitingIssues h = issuesOf h s.drive.queue := by
  rw [State.waitingIssues, issuesOf]
  exact congrArg (fun read => s.drive.queue.filterMap read) (funext fun f => by cases f <;> rfl)

section
variable {h : Head} {q : List DriveFrame}

theorem DriveFrame.isIssueOf_iff {f : DriveFrame} {num : Byte} : f.isIssueOf h num = true ↔ f.issueOf h = some num := by
  cases f with
  | issue g n => by_cases e : g = h <;> simp [DriveFrame.isIssueOf, DriveFrame.issueOf, e]
  | halt g => simp [DriveFrame.isIssueOf, DriveFrame.issueOf]

theorem issuesOf_append (q' : List DriveFrame) : issuesOf h (q ++ q') = issuesOf h q ++ issuesOf h q' :=
  List.filterMap_append

theorem issuesOf_issueFrame (g : Head) (r : InFlight) :
    issuesOf h [r.issueFrame g] = if g = h then [r.issue] else [] := by
  by_cases e : g = h <;> simp [issuesOf, InFlight.issueFrame, DriveFrame.issueOf, e]

theorem issuesOf_cons (f : DriveFrame) : issuesOf h (f :: q) = (f.issueOf h).toList ++ issuesOf h q := by
  cases e : f.issueOf h <;> simp [issuesOf, e]

/-- Withdrawn ISSUE frames of head h leave the issue numbers of the others. -/
theorem issuesOf_filter (l : List InFlight) :
    issuesOf h (q.filter fun f => l.all fun r => !f.isIssueOf h r.issue) =
      (issuesOf h q).filter fun num => l.all fun r => num != r.issue := by
  induction q with
  | nil => rfl
  | cons f q ih =>
    have out {num : Byte} (e : f.issueOf h = some num) :
        (l.all fun r => !f.isIssueOf h r.issue) = l.all fun r => num != r.issue := by
      refine List.all_congr rfl fun r => ?_
      rw [bne, Bool.not_inj_iff, Bool.eq_iff_iff, DriveFrame.isIssueOf_iff, e, beq_iff_eq, Option.some_inj]
    have staying (e : f.issueOf h = none) : (l.all fun r => !f.isIssueOf h r.issue) = true := by
      have (r : InFlight) : f.isIssueOf h r.issue = false := by
        rw [← Bool.not_eq_true, DriveFrame.isIssueOf_iff, e]
        exact nofun
      simp [this]
    rw [List.filter_cons, issuesOf_cons, List.filter_append]
    cases e : f.issueOf h with
    | none => rw [if_pos (staying e), issuesOf_cons, e, ih]; rfl
    | some num =>
      rw [out e, Option.toList_some, List.filter_cons, List.filter_nil]
      split
      · rw [issuesOf_cons, e, ih]; rfl
      · rw [ih]; rfl

/-- A withdrawn ISSUE frame of another head is not one of head g. -/
theorem issuesOf_filter_other {g : Head} (hg : g ≠ h) (l : List InFlight) :
    issuesOf g (q.filter fun f => l.all fun r => !f.isIssueOf h r.issue) = issuesOf g q := by
  have mine {f : DriveFrame} {num : Byte} (e : f.issueOf g = some num) (n : Byte) : f.isIssueOf h n = false := by
    cases f with
    | halt => rfl
    | issue x num =>
      by_cases its : x = g
      · simp [DriveFrame.isIssueOf, its, hg]
      · rw [DriveFrame.issueOf, if_neg its] at e
        cases e
  induction q with
  | nil => rfl
  | cons f q ih =>
    rw [List.filter_cons, issuesOf_cons]
    cases e : f.issueOf g with
    | none => split <;> simp [issuesOf_cons, e, ih]
    | some num => simp [mine e, issuesOf_cons, e, ih]

/-- Withdrawn ISSUE frames leave the HALT frames. -/
theorem count_halt_filter (g : Head) (l : List InFlight) :
    (q.filter fun f => l.all fun r => !f.isIssueOf h r.issue).count (.halt g) = q.count (.halt g) :=
  List.count_filter (by simp [DriveFrame.isIssueOf])

/-- The head of a drive frame. -/
def DriveFrame.head : DriveFrame → Head
  | .issue g .. => g
  | .halt g => g

/-- The drive frames of head h in a list. -/
def framesOf (h : Head) (q : List DriveFrame) : Nat := (issuesOf h q).length + q.count (.halt h)

theorem framesOf_nil : framesOf h [] = 0 := by simp [framesOf, issuesOf]

theorem framesOf_cons (f : DriveFrame) : framesOf h (f :: q) = framesOf h q + if f.head = h then 1 else 0 := by
  cases f with
  | issue g num =>
    by_cases e : g = h <;> simp [framesOf, issuesOf_cons, DriveFrame.issueOf, DriveFrame.head, e]
    omega
  | halt g =>
    by_cases e : g = h <;> simp [framesOf, issuesOf_cons, DriveFrame.issueOf, DriveFrame.head, e]
    omega

theorem one_of_four : ∀ g : Head, (if g = 0 then 1 else 0) + (if g = 1 then 1 else 0) + (if g = 2 then 1 else 0) +
    (if g = 3 then 1 else 0) = 1 := by
  decide

/-- Every drive frame is an ISSUE or a HALT of one of the four heads. -/
theorem length_driveFrames : q.length = framesOf 0 q + framesOf 1 q + framesOf 2 q + framesOf 3 q := by
  induction q with
  | nil => simp [framesOf_nil]
  | cons f q ih =>
    rw [List.length_cons, framesOf_cons, framesOf_cons, framesOf_cons, framesOf_cons, ih]
    have := one_of_four f.head
    omega

end

/-! #### Moves keep the drive transmit queue matched -/

theorem State.driveQueueLaw_iff {s : State} : s.DriveQueueLaw ↔ ∀ h,
    issuesOf h s.drive.queue <:+ (s.head h).inFlight.map InFlight.issue ∧ s.drive.queue.count (.halt h) ≤ 1 := by
  simp only [State.DriveQueueLaw, State.waitingIssues_eq]

/-- The waiting numbers without the first number of a list that holds it once. -/
theorem filter_suffix_tail {w l : List Byte} {a : Byte} (hw : w <:+ a :: l) (ha : a ∉ l) :
    w.filter (· != a) <:+ l := by
  have keeps {v : List Byte} (hv : v <:+ l) : v.filter (· != a) = v :=
    List.filter_eq_self.mpr fun x hx => bne_iff_ne.mpr fun e => ha (e ▸ hv.subset hx)
  obtain rfl | hw := List.suffix_cons_iff.mp hw
  · have dropped : (a :: l).filter (· != a) = l := by rw [List.filter_cons, if_neg (by simp), keeps List.suffix_rfl]
    exact ⟨[], dropped⟩
  · rw [keeps hw]; exact hw

/-- A record has a number of its own among those in flight (R85, R86). -/
theorem HeadRecord.Lawful.issue_notMem_tail {hd : HeadRecord} (hl : hd.Lawful) {r : InFlight}
    (oldest : hd.inFlight.head? = some r) : r.issue ∉ hd.inFlight.tail.map InFlight.issue := by
  obtain ⟨list, -, -, -, numbers, -⟩ := hl
  rcases hi : hd.inFlight with _ | ⟨r₀, _ | ⟨r₁, _ | ⟨r₂, more⟩⟩⟩
  · simp
  · simp
  · simp only [hi, List.head?_cons, Option.some_inj] at oldest
    simp only [HeadRecord.numbersRun, hi, Bool.and_eq_true, beq_iff_eq] at numbers
    simp only [List.tail_cons, List.map_cons, List.map_nil, List.mem_singleton, ← oldest, numbers.1]
    bv_omega
  · exact absurd list.1 (by simp [hi])

section
variable {s t : State}

/-- The numbers in flight after a sample (R104). -/
theorem HeadRecord.Seen.issues {hd : HeadRecord} {l : List InFlight} (seen : hd.Seen l) :
    l.map InFlight.issue = hd.inFlight.map InFlight.issue := by
  obtain rfl | rfl := seen
  · rfl
  · rw [HeadRecord.markSawHigh]
    split
    · rfl
    · next e => rw [e]; rfl

theorem RecordMove.issues {h : Head} {hd hd' : HeadRecord} (m : RecordMove h hd hd') :
    hd'.inFlight.map InFlight.issue = hd.inFlight.map InFlight.issue := by
  cases m with
  | alive => rw [HeadRecord.signOfLife_eq]
  | monitored m l within seen => exact seen.issues
  | _ => rfl

theorem HeadRecord.listAfter_issues (hd : HeadRecord) :
    hd.listAfter.map InFlight.issue = hd.inFlight.tail.map InFlight.issue := by
  rw [HeadRecord.listAfter]
  split
  · next e => rw [e]
  · next e => rw [e]; rfl

/-- The law after a change of one record and of the drive transmit queue. -/
theorem State.driveQueueLaw_modHead {u : State} {h : Head} {f : HeadRecord → HeadRecord} (heads : u.heads = s.heads)
    (hs : ∀ g, g ≠ h → issuesOf g u.drive.queue <:+ (s.head g).inFlight.map InFlight.issue ∧
      u.drive.queue.count (.halt g) ≤ 1)
    (hh : issuesOf h u.drive.queue <:+ (f (s.head h)).inFlight.map InFlight.issue ∧ u.drive.queue.count (.halt h) ≤ 1) :
    (u.modHead h f).DriveQueueLaw := by
  refine State.driveQueueLaw_iff.mpr fun g => ?_
  rw [State.modHead_drive, State.head_modHead, State.head_of_heads g heads]
  split
  · next e => subst e; exact hh
  · next e => exact hs g e

/-- A record that changes without issue or report, the queue staying. -/
theorem State.DriveQueueLaw.sameList {u : State} {h : Head} {f : HeadRecord → HeadRecord} (hs : s.DriveQueueLaw)
    (heads : u.heads = s.heads) (queue : u.drive.queue = s.drive.queue)
    (list : (f (s.head h)).inFlight.map InFlight.issue = (s.head h).inFlight.map InFlight.issue) :
    (u.modHead h f).DriveQueueLaw := by
  rw [State.driveQueueLaw_iff] at hs
  refine State.driveQueueLaw_modHead heads (fun g _ => queue ▸ hs g) ?_
  rw [list, queue]
  exact hs h

/-- A halt request queues a HALT that does not wait already (R89). -/
theorem State.DriveQueueLaw.halted {h : Head} (hs : s.DriveQueueLaw) (outstanding : Bool) (g : Head) :
    issuesOf g (s.driveHalted h outstanding).queue <:+ (s.head g).inFlight.map InFlight.issue ∧
      (s.driveHalted h outstanding).queue.count (.halt g) ≤ 1 := by
  obtain ⟨issues, halts⟩ := State.driveQueueLaw_iff.mp hs g
  rw [State.driveHalted]
  split
  · exact ⟨issues, halts⟩
  · next free =>
    simp only [Bool.or_eq_true, not_or, List.contains_iff_mem] at free
    refine ⟨?_, ?_⟩
    · rw [issuesOf_append]
      rw [show issuesOf g [.halt h] = [] from rfl, List.append_nil]
      exact issues
    · rw [List.count_append]
      by_cases e : h = g
      · subst e
        rw [List.count_eq_zero_of_not_mem free.2]
        simp
      · rw [List.count_eq_zero_of_not_mem (a := DriveFrame.halt g) (l := [.halt h]) (by simp [Ne.symm e])]
        exact halts

/-- A record that leaves takes its waiting ISSUE frame with it (R88). -/
theorem State.DriveQueueLaw.gone {u : State} {h : Head} {f : HeadRecord → HeadRecord} (hs : s.DriveQueueLaw)
    (heads : u.heads = s.heads) (l : List InFlight)
    (queue : u.drive.queue = s.drive.queue.filter fun x => l.all fun r => !x.isIssueOf h r.issue)
    (list : ((issuesOf h s.drive.queue).filter fun num => l.all fun r => num != r.issue) <:+
      (f (s.head h)).inFlight.map InFlight.issue) : (u.modHead h f).DriveQueueLaw := by
  rw [State.driveQueueLaw_iff] at hs
  refine State.driveQueueLaw_modHead heads (fun g hg => ?_) ?_
  · rw [queue, issuesOf_filter_other hg, count_halt_filter]
    exact hs g
  · rw [queue, issuesOf_filter, count_halt_filter]
    exact ⟨list, (hs h).2⟩

/-- A report takes the oldest record away (R88, R92, R94). -/
theorem State.DriveQueueLaw.reported {u : State} {h : Head} {f : HeadRecord → HeadRecord} (hs : s.DriveQueueLaw)
    (heads : u.heads = s.heads) (lawful : (s.head h).Lawful) {r : InFlight}
    (oldest : (s.head h).inFlight.head? = some r)
    (queue : u.drive.queue = s.drive.queue.filter fun x => !x.isIssueOf h r.issue)
    (list : (f (s.head h)).inFlight = (s.head h).listAfter) : (u.modHead h f).DriveQueueLaw := by
  refine hs.gone heads [r] (by simpa using queue) ?_
  have waiting := (State.driveQueueLaw_iff.mp hs h).1
  rw [eq_cons_of_head? oldest, List.map_cons] at waiting
  rw [list, HeadRecord.listAfter_issues]
  simpa using filter_suffix_tail waiting (lawful.issue_notMem_tail oldest)

/-- An issue queues the frame of the newest record (R80, R88). -/
theorem State.DriveQueueLaw.issued {h : Head} {q : QueuedStroke} {rest : List QueuedStroke} {rating : Rating}
    {fp : List CellRef} (hs : s.DriveQueueLaw) (front : (s.head h).queue = q :: rest) :
    (s.issueStroke h q rating fp).DriveQueueLaw := by
  rw [State.driveQueueLaw_iff] at hs
  rw [State.issueStroke_eq _ _ _ _ _ (by simp [front])]
  have queued : (s.issuedAround h q rating fp).drive.queue =
      s.drive.queue ++ [(buildRecord s h q rating).issueFrame h] := by simp
  have halts (g : Head) : (s.drive.queue ++ [(buildRecord s h q rating).issueFrame h]).count (.halt g) ≤ 1 := by
    rw [List.count_append, List.count_eq_zero_of_not_mem (l := [InFlight.issueFrame h _]) (by simp [InFlight.issueFrame])]
    exact (hs g).2
  refine State.driveQueueLaw_modHead (s := s) (by simp) (fun g hg => ?_) ?_
  · rw [queued, issuesOf_append, issuesOf_issueFrame, if_neg (Ne.symm hg), List.append_nil]
    exact ⟨(hs g).1, halts g⟩
  · rw [queued, issuesOf_append, issuesOf_issueFrame, if_pos rfl]
    refine ⟨?_, halts h⟩
    have joined : ((s.head h).strokeIssued q (buildRecord s h q rating)).inFlight.map InFlight.issue =
        (s.head h).inFlight.map InFlight.issue ++ [(buildRecord s h q rating).issue] := by
      simp only [HeadRecord.strokeIssued, List.map_append, List.map_cons, List.map_nil]
      split <;> rfl
    rw [joined]
    obtain ⟨before, e⟩ := (hs h).1
    exact ⟨before, by rw [← List.append_assoc, e]⟩

theorem Move.driveQueueLaw (m : Move s t) (lawful : s.HeadsLawful) (hs : s.DriveQueueLaw) : t.DriveQueueLaw := by
  cases m with
  | aside block cells heads waitList queue =>
    refine State.driveQueueLaw_iff.mpr fun h => ?_
    obtain ⟨issues, halts⟩ := State.driveQueueLaw_iff.mp hs h
    rw [State.head_of_heads h heads]
    exact ⟨(queue.filterMap _).trans issues, Nat.le_trans (queue.sublist.count_le _) halts⟩
  | record h move => exact hs.sameList (f := fun _ => _) rfl rfl move.issues
  | halting h =>
    rw [State.requestHalt_eq]
    exact State.driveQueueLaw_modHead (s := s) (by simp) (fun g _ => hs.halted _ g) (hs.halted _ h)
  | waiting h fp =>
    refine State.driveQueueLaw_iff.mpr fun g => ?_
    rw [State.head_recordWait, State.recordWait_drive]
    exact State.driveQueueLaw_iff.mp hs g
  | flushed h => rw [State.flush_eq]; exact hs.sameList (by simp) (by simp) rfl
  | held h => rw [State.enterHeld_eq]; exact hs.sameList (by simp) (by simp) rfl
  | off h => rw [State.enterOff_eq]; exact hs.sameList (by simp) (by simp) rfl
  | refused h => rw [State.refuseStroke_eq]; exact hs.sameList (by simp) (by simp) rfl
  | issued h q rest rating fp front verdict => exact hs.issued front
  | completed h r oldest =>
    rw [State.takeComplete_eq]
    exact hs.reported (by simp) (lawful h) oldest (by simp) rfl
  | stopped h r k stop oldest =>
    rw [State.takeHalted_eq]
    exact hs.reported (by simp) (lawful h) oldest (by simp) rfl
  | @faulted h hd cause issue code state ailing =>
    have same : hd.inFlight.map InFlight.issue = (s.head h).inFlight.map InFlight.issue := by
      obtain ⟨gap, overdue, m, l, -, -, -, -, -, seen⟩ := ailing
      exact seen.issues
    have before : (s.setHead h hd).DriveQueueLaw := hs.sameList (f := fun _ => hd) rfl rfl same
    rw [State.enterFault_eq]
    exact State.driveQueueLaw_modHead (s := s.setHead h hd) (by simp) (fun g _ => before.halted _ g) (before.halted _ h)
  | cleared h p =>
    rw [State.resolveAll_restore_eq]
    refine hs.gone (by simp) (s.head h).inFlight (by simp) ?_
    have all : ∀ num ∈ issuesOf h s.drive.queue, ¬ ((s.head h).inFlight.all fun r => num != r.issue) = true := by
      intro num hn
      obtain ⟨r, hr, rfl⟩ := List.mem_map.mp ((State.driveQueueLaw_iff.mp hs h).1.subset hn)
      exact fun h => absurd (List.all_eq_true.mp h r hr) (by simp)
    rw [List.filter_eq_nil_iff.mpr all]
    exact List.nil_suffix
  | programmed field r refs => exact hs

theorem BlockMove.driveQueueLaw (b : BlockMove s t) (hs : s.DriveQueueLaw) : t.DriveQueueLaw := by
  cases b with
  | begun | initialised | unloading | unloaded | resetLow => exact hs
  | reset block cells heads waitList occasions queue =>
    refine State.driveQueueLaw_iff.mpr fun h => ?_
    rw [queue]
    exact ⟨List.nil_suffix, by simp⟩

end

theorem Move.headsLawful {s t : State} (m : Move s t) (hs : s.HeadsLawful) : t.HeadsLawful :=
  fun g => (m.head g).lawful (hs g)

theorem BlockMove.headsLawful {s t : State} (b : BlockMove s t) (hs : s.HeadsLawful) : t.HeadsLawful := fun g =>
  (b.head g).elim (fun e => e ▸ hs g) fun e => e ▸ HeadRecord.reset_lawful

/-- Settles O58: every move keeps the waiting ISSUE frames to the newest records; so each of the four heads has at most
two ISSUE frames and one HALT among them. -/
theorem driveQueueNeverFills : Obligations.DriveQueueNeverFills := by
  refine ⟨fun s t lawful hs ht => ?_, fun s lawful hs => ?_⟩
  · exact ((step_reaches ht).keeps (P := fun s => s.HeadsLawful ∧ s.DriveQueueLaw)
      (fun _ _ m hs => ⟨m.headsLawful hs.1, m.driveQueueLaw hs.1 hs.2⟩)
      (fun _ _ b hs => ⟨b.headsLawful hs.1, b.driveQueueLaw hs.2⟩) ⟨lawful, hs⟩).2
  · have each (h : Head) : framesOf h s.drive.queue ≤ 3 := by
      obtain ⟨issues, halts⟩ := State.driveQueueLaw_iff.mp hs h
      have := issues.length_le
      rw [List.length_map] at this
      have := (lawful h).1.1
      rw [framesOf]
      omega
    rw [length_driveFrames]
    have := each 0
    have := each 1
    have := each 2
    have := each 3
    omega

end Sys2Proof.Machine

/-! ### Ranges, queues and in-flight records (R25, R76, R81, R102, R115, R116, R121) -/

namespace Sys2Proof.Machine

section
variable {hd : HeadRecord} {h : Head}

/-- The settings of a head lie in their ranges after every change of its record. -/
theorem RecordMove.settingsLaw {hd' : HeadRecord} (m : RecordMove h hd hd') (hl : hd.SettingsLaw) :
    hd'.SettingsLaw := by
  obtain ⟨guard, rate, travel, clearance, lowWater, high, low, stall, step, tolerance, gap, factor, allowance⟩ := hl
  cases m with
  | alive =>
    rw [HeadRecord.signOfLife_eq]
    exact ⟨guard, rate, travel, clearance, lowWater, high, low, stall, step, tolerance, gap, factor, allowance⟩
  | settings ops pass =>
    simp only [settingsPass, Bool.and_eq_true] at pass
    obtain ⟨⟨⟨⟨guard, rate⟩, travel⟩, -⟩, lowWater⟩ := pass
    simp only [inRange, Bool.and_eq_true, decide_eq_true_eq] at guard lowWater
    exact ⟨guard.2, rate, travel, Nat.lt_succ_iff.mp ops.clearance.isLt, lowWater.2, high, low, stall, step, tolerance,
      gap, factor, allowance⟩
  | monitorSettings ops pass =>
    simp only [monitorPasses, Bool.and_eq_true] at pass
    obtain ⟨⟨⟨⟨high, low⟩, stall⟩, step⟩, tolerance⟩ := pass
    exact ⟨guard, rate, travel, clearance, lowWater, high, low, stall, step, tolerance, gap, factor, allowance⟩
  | timerSettings ops pass =>
    simp only [timersPass, Bool.and_eq_true] at pass
    obtain ⟨⟨gap, factor⟩, allowance⟩ := pass
    exact ⟨guard, rate, travel, clearance, lowWater, high, low, stall, step, tolerance, gap, factor, allowance⟩
  | _ => exact ⟨guard, rate, travel, clearance, lowWater, high, low, stall, step, tolerance, gap, factor, allowance⟩

theorem HeadMove.settingsLaw {s : State} (m : HeadMove s h hd) (hl : (s.head h).SettingsLaw) : hd.SettingsLaw := by
  cases m with
  | record move => exact move.settingsLaw hl
  | faulted cause issue code state ailing => obtain ⟨gap, overdue, m, l⟩ := ailing; exact hl
  | _ => exact hl

/-- A step-down moves no run: the runs belong to the head (R107, log entry 6). -/
theorem HeadRecord.steppedDown_runs (hd : HeadRecord) (r : InFlight) : (hd.steppedDown r).highRun = hd.monitor.highRun ∧
    (hd.steppedDown r).lowRun = hd.monitor.lowRun ∧ (hd.steppedDown r).stallRun = hd.monitor.stallRun := by
  rw [HeadRecord.steppedDown]
  split
  · exact ⟨rfl, rfl, rfl⟩
  · split
    · exact ⟨rfl, rfl, rfl⟩
    · split
      · exact ⟨rfl, rfl, rfl⟩
      · split <;> exact ⟨rfl, rfl, rfl⟩

/-- The monitor after a COMPLETE (R107). -/
theorem HeadRecord.steppedDown_within (r : InFlight) : Monitor.Within hd.monitorSettings hd.monitor (hd.steppedDown r) := by
  obtain ⟨high, low, stall⟩ := hd.steppedDown_runs r
  refine ⟨.inl ?_, ?_, .inl (Nat.le_of_eq high), .inl (Nat.le_of_eq low), .inl (Nat.le_of_eq stall)⟩
  · rw [HeadRecord.steppedDown]
    split
    · exact Nat.le_refl _
    · split
      · exact Nat.le_refl _
      · split
        · exact Nat.le_refl _
        · split
          · exact Nat.sub_le _ _
          · exact Nat.le_refl _
  · rw [HeadRecord.steppedDown]
    split
    · exact .inl (Nat.le_refl _)
    · split
      · exact .inl (Nat.zero_le _)
      · split
        · exact .inl (Nat.le_refl _)
        · split
          · exact .inl (Nat.zero_le _)
          · next h => exact .inr (Nat.lt_of_not_le h)

/-- Runs, count and level that only fall, or stay below their debounce, step-down count or level 3, stay in their
ranges (R102). -/
theorem HeadRecord.MonitorLaw.within {x : HeadState} {m : Monitor} (hl : hd.MonitorLaw) (settings : hd.SettingsLaw)
    (within : Monitor.Within hd.monitorSettings hd.monitor m) (fault : x ≠ .fault → hd.state ≠ .fault) :
    m.derate ≤ 3 ∧ m.cleanCount < 15 ∧ m.highRun ≤ 15 ∧ m.lowRun ≤ 15 ∧ m.stallRun ≤ 15 ∧
      (x ≠ .fault → m.highRun < 15 ∧ m.lowRun < 15 ∧ m.stallRun < 15) := by
  obtain ⟨derate, clean, high, low, stall, running⟩ := hl
  obtain ⟨-, -, -, -, -, highD, lowD, stallD, step, -⟩ := settings
  simp only [inRange, Bool.and_eq_true, decide_eq_true_eq] at highD lowD stallD step
  obtain ⟨derate', clean', high', low', stall'⟩ := within
  refine ⟨by omega, by omega, by omega, by omega, by omega, fun hx => ?_⟩
  obtain ⟨high, low, stall⟩ := running (fault hx)
  exact ⟨by omega, by omega, by omega⟩

/-- A monitor is within itself. -/
theorem Monitor.within_self (ms : MonitorSettings) (m : Monitor) : Monitor.Within ms m m :=
  ⟨.inl (Nat.le_refl _), .inl (Nat.le_refl _), .inl (Nat.le_refl _), .inl (Nat.le_refl _), .inl (Nat.le_refl _)⟩

theorem RecordMove.monitorLaw {hd' : HeadRecord} (m : RecordMove h hd hd') (settings : hd.SettingsLaw)
    (hl : hd.MonitorLaw) : hd'.MonitorLaw := by
  cases m with
  | alive => rw [HeadRecord.signOfLife_eq]; exact hl
  | monitored m l within seen => exact hl.within settings within id
  | released state => exact hl.within settings (Monitor.within_self _ _) (by simp [state])
  | enabled state => exact hl.within settings (Monitor.within_self _ _) (by simp [state])
  | _ => exact hl

theorem HeadMove.monitorLaw {s : State} (m : HeadMove s h hd) (settings : (s.head h).SettingsLaw)
    (hl : (s.head h).MonitorLaw) : hd.MonitorLaw := by
  have same {x : HeadState} (fault : x ≠ .fault → (s.head h).state ≠ .fault) :=
    hl.within settings (Monitor.within_self _ _) fault
  have after {reported : Point} (hx : ((s.head h).reportTaken reported).state ≠ .fault) : (s.head h).state ≠ .fault :=
    fun e => hx (by simp [HeadRecord.reportTaken, HeadRecord.afterReport, e])
  cases m with
  | record move => exact move.monitorLaw settings hl
  | same | halting | flushed => exact hl
  | held cause state => exact same fun _ => by rcases state with e | e <;> simp [e]
  | off state => exact same fun _ => by rcases state with e | e | e <;> simp [e]
  | refused admits => exact same fun _ => by rcases (HeadState.admits_iff _).mp admits with e | e <;> simp [e]
  | issued q rest rating fp front verdict =>
    have admits := (State.verdict_issue verdict).admits
    exact same fun _ => by rcases (HeadState.admits_iff _).mp admits with e | e <;> simp [e]
  | completed r => exact hl.within settings (HeadRecord.steppedDown_within r) (after (reported := r.stroke.finish))
  | stopped r stop => exact same (after (reported := stop))
  | faulted cause issue code state ailing =>
    obtain ⟨gap, overdue, m, l, derate', clean', high', low', stall', -⟩ := ailing
    obtain ⟨derate, clean, -, -, -, running⟩ := hl
    obtain ⟨high, low, stall⟩ := running (by rcases state with e | e | e <;> simp [e])
    refine ⟨Nat.le_trans derate' derate, Nat.lt_of_le_of_lt clean' clean, ?_, ?_, ?_, fun hx => absurd rfl hx⟩
    · exact Nat.le_trans high' high
    · exact Nat.le_trans low' low
    · exact Nat.le_trans stall' stall
  | cleared =>
    exact HeadRecord.MonitorLaw.within (hd := .reset) (by decide) (by decide) (Monitor.within_self _ _) fun _ => by decide

/-- The queue of a head after every change of its record (R25, R26). -/
theorem HeadMove.queueLaw {s : State} (m : HeadMove s h hd)
    (hl : (s.head h).queue.length ≤ 32 ∧ ∀ q ∈ (s.head h).queue, q.stroke.head = h) :
    hd.queue.length ≤ 32 ∧ ∀ q ∈ hd.queue, q.stroke.head = h := by
  have empty : ([] : List QueuedStroke).length ≤ 32 ∧ ∀ q ∈ ([] : List QueuedStroke), q.stroke.head = h :=
    ⟨Nat.zero_le _, fun q hq => absurd hq List.not_mem_nil⟩
  have tail : (s.head h).queue.tail.length ≤ 32 ∧ ∀ q ∈ (s.head h).queue.tail, q.stroke.head = h :=
    ⟨(by simp; omega), fun q hq => hl.2 q (List.mem_of_mem_tail hq)⟩
  cases m with
  | record move =>
    cases move with
    | accepted q own room =>
      refine ⟨by rw [List.length_append]; exact room, fun x hx => ?_⟩
      obtain hx | hx := List.mem_append.mp hx
      · exact hl.2 x hx
      · rw [List.mem_singleton.mp hx, own]
    | alive => rw [HeadRecord.signOfLife_eq]; exact hl
    | _ => exact hl
  | flushed | cleared => exact empty
  | refused | issued => exact tail
  | faulted cause issue code state ailing => obtain ⟨gap, overdue, m, l⟩ := ailing; exact hl
  | same | halting | held | off | completed | stopped => exact hl

/-- The in-flight records of a head stay as issue builds them (R76, R80, R81). -/
theorem HeadMove.recordsLaw {s : State} (m : HeadMove s h hd) (settings : (s.head h).SettingsLaw)
    (queue : ∀ q ∈ (s.head h).queue, q.stroke.head = h) (hl : ∀ r ∈ (s.head h).inFlight, r.Law h) :
    ∀ r ∈ hd.inFlight, r.Law h := by
  refine m.forall_inFlight (Q := fun r => r.Law h) (fun _ _ _ hr => hr) (fun q rest rating fp front passed => ?_) hl
  obtain ⟨least, most, dominant, window⟩ := State.rate_ok passed.rated
  exact ⟨queue q (front ▸ List.mem_cons_self), least, most, settings.1, passed.length, rfl, dominant, window⟩

end

/-- Settles O56: every move keeps the ranges and the queue of a head, and an issue builds its record from both. -/
theorem stepKeepsRangesAndRecords : Obligations.StepKeepsRangesAndRecords := by
  refine ⟨fun s t hs ht => ?_, fun s t hs ht => ?_, fun s t hr hq hs ht => ?_⟩
  · exact step_keeps_heads (P := fun _ hd => hd.SettingsLaw ∧ hd.MonitorLaw) (fun _ => by decide)
      (fun s h _ hs m => ⟨m.settingsLaw (hs h).1, m.monitorLaw (hs h).1 (hs h).2⟩) hs ht
  · exact step_keeps_heads (P := fun h hd => hd.queue.length ≤ 32 ∧ ∀ q ∈ hd.queue, q.stroke.head = h)
      (fun _ => ⟨Nat.zero_le _, fun q hq => absurd hq List.not_mem_nil⟩) (fun s h _ hs m => m.queueLaw (hs h)) hs ht
  · refine fun h => (step_keeps_heads (P := fun h hd => hd.SettingsLaw ∧
        (hd.queue.length ≤ 32 ∧ ∀ q ∈ hd.queue, q.stroke.head = h) ∧ ∀ r ∈ hd.inFlight, r.Law h)
      (fun _ => ⟨by decide, ⟨Nat.zero_le _, fun q hq => absurd hq List.not_mem_nil⟩, fun r hr => absurd hr List.not_mem_nil⟩)
      (fun s h _ hs m => ?_) (fun h => ⟨(hr h).1, hq h, hs h⟩) ht h).2.2
    obtain ⟨settings, queue, records⟩ := hs h
    exact ⟨m.settingsLaw settings, m.queueLaw queue, m.recordsLaw settings queue.2 records⟩

end Sys2Proof.Machine

/-! ### What a command does to the links and to the command slot (R153, R154, R158, R165 to R173) -/

namespace Sys2Proof.Machine

/-! #### Steps of the outbound state -/

/-- One act on the outbound state while a command is carried out: an occurrence, a write of the reply slot, or notices
joining the done queue (R96, R158, R170). -/
inductive OutStep (o : Outbound) : Outbound → Prop
  | raised (cls : EventClass) (d : Details) : OutStep o (o.raise cls d)
  | replied (v : Option Reply) : OutStep o { o with replySlot := v }
  | noticed (l : List QueuedNotice) : OutStep o { o with notices := o.notices ++ l }

abbrev OutSteps : Outbound → Outbound → Prop := Chain OutStep

@[simp] theorem Outbound.raise_tx (o : Outbound) (cls : EventClass) (d : Details) : (o.raise cls d).tx = o.tx := by
  rw [Outbound.raise]
  split
  · rfl
  · split <;> rfl

@[simp] theorem Outbound.raise_enables (o : Outbound) (cls : EventClass) (d : Details) :
    (o.raise cls d).enables = o.enables := by
  rw [Outbound.raise]
  split
  · rfl
  · split <;> rfl

@[simp] theorem Outbound.raise_notices (o : Outbound) (cls : EventClass) (d : Details) :
    (o.raise cls d).notices = o.notices := by
  rw [Outbound.raise]
  split
  · rfl
  · split <;> rfl

/-- No act of a command places or frees a frame, or changes the class enables. -/
theorem OutSteps.frame {o o' : Outbound} (h : OutSteps o o') : o'.tx = o.tx ∧ o'.enables = o.enables := by
  induction h with
  | refl => exact ⟨rfl, rfl⟩
  | tail _ step ih =>
    cases step with
    | raised => exact ⟨(Outbound.raise_tx ..).trans ih.1, (Outbound.raise_enables ..).trans ih.2⟩
    | replied | noticed => exact ih

/-! #### The links around a command -/

/-- What a command does to the links, its own frame aside: acts on the outbound state, counters and receivers that keep
their bounds. -/
structure Outward (s t : State) : Prop where
  out : OutSteps s.out t.out
  counters : s.CountersLaw → t.CountersLaw
  receivers : s.ReceiversLaw → t.ReceiversLaw

/-- The block record and the command slot stay, and no head comes to owe a hold REPLY. -/
structure Quiet (s t : State) : Prop extends Outward s t where
  slot : t.mgmt.slot = s.mgmt.slot
  block : t.block = s.block
  owed : ∀ h, (t.head h).holdReplyOwed = true → (s.head h).holdReplyOwed = true

theorem Outward.refl (s : State) : Outward s s := ⟨.refl, id, id⟩

theorem Outward.trans {s t u : State} (a : Outward s t) (b : Outward t u) : Outward s u :=
  ⟨Chain.trans a.out b.out, b.counters ∘ a.counters, b.receivers ∘ a.receivers⟩

theorem Quiet.refl (s : State) : Quiet s s := ⟨.refl s, rfl, rfl, fun _ h => h⟩

theorem Quiet.trans {s t u : State} (a : Quiet s t) (b : Quiet t u) : Quiet s u :=
  ⟨a.toOutward.trans b.toOutward, b.slot.trans a.slot, b.block.trans a.block, fun h ho => a.owed h (b.owed h ho)⟩

/-- An update that leaves counters and receivers. -/
theorem Outward.of_out {s t : State} (out : OutSteps s.out t.out) (counters : t.counters = s.counters)
    (receivers : t.receivers = s.receivers) : Outward s t :=
  ⟨out, fun h => by rwa [State.CountersLaw, counters], fun h => by rwa [State.ReceiversLaw, receivers]⟩

/-- An update that leaves the links. -/
theorem Outward.of_eq {s t : State} (out : t.out = s.out) (counters : t.counters = s.counters)
    (receivers : t.receivers = s.receivers) : Outward s t := .of_out (out ▸ .refl) counters receivers

/-- An update that leaves the records of the heads. -/
theorem Quiet.of_out {s t : State} (out : OutSteps s.out t.out) (counters : t.counters = s.counters)
    (receivers : t.receivers = s.receivers) (slot : t.mgmt.slot = s.mgmt.slot) (block : t.block = s.block)
    (heads : t.heads = s.heads) :
    Quiet s t :=
  ⟨.of_out out counters receivers, slot, block, fun h ho => by rwa [State.head_of_heads h heads] at ho⟩

/-- An update that leaves the links, the command slot and the records of the heads. -/
theorem Quiet.of_eq {s t : State} (out : t.out = s.out) (counters : t.counters = s.counters)
    (receivers : t.receivers = s.receivers) (slot : t.mgmt.slot = s.mgmt.slot) (block : t.block = s.block)
    (heads : t.heads = s.heads) :
    Quiet s t :=
  .of_out (out ▸ .refl) counters receivers slot block heads

/-- An update of one record. -/
theorem Quiet.modHead {s u : State} (q : Quiet s u) (h : Head) (f : HeadRecord → HeadRecord)
    (owed : (f (u.head h)).holdReplyOwed = true → (u.head h).holdReplyOwed = true) : Quiet s (u.modHead h f) := by
  refine q.trans ⟨.of_out .refl rfl rfl, rfl, rfl, fun g hg => ?_⟩
  rw [State.head_modHead] at hg
  split at hg
  · next e => subst e; exact owed hg
  · exact hg

section
variable (s : State)

theorem Quiet.raise (cls : EventClass) (d : Details) : Quiet s (s.raise cls d) :=
  .of_out (.single (.raised cls d)) rfl rfl rfl rfl rfl

theorem Quiet.answer (status : Status) (results : Results) : Quiet s (s.answer status results) := by
  rw [State.answer_eq]
  exact .of_out (.single (.replied _)) rfl rfl rfl rfl rfl

theorem Quiet.refuse (status : Status) : Quiet s (s.refuse status) := .answer s status .none

theorem Quiet.raiseOccasion (o : Occasion) : Quiet s (s.raiseOccasion o) := by
  rw [State.raiseOccasion_eq]
  exact .of_out .refl rfl rfl rfl rfl rfl

theorem Quiet.modCells (f : Cell → Cell) (refs : List CellRef) : Quiet s (s.modCells f refs) :=
  .of_out .refl rfl rfl rfl rfl rfl

theorem Quiet.flush (h : Head) : Quiet s (s.flush h) := by
  rw [State.flush_eq]
  refine Quiet.modHead (.of_eq ?_ ?_ ?_ ?_ ?_ ?_) h _ ?_
  all_goals simp

theorem Quiet.flushAll : Quiet s s.flushAll :=
  (((Quiet.flush s 0).trans (Quiet.flush _ 1)).trans (Quiet.flush _ 2)).trans (Quiet.flush _ 3)

theorem Quiet.enterOff (h : Head) : Quiet s (s.enterOff h) := by
  rw [State.enterOff_eq]
  refine Quiet.modHead (.of_eq ?_ ?_ ?_ ?_ ?_ ?_) h _ ?_
  all_goals simp

theorem Quiet.enterHeld (h : Head) (cause : HoldCause) : Quiet s (s.enterHeld h cause) := by
  rw [State.enterHeld_eq]
  refine Quiet.modHead (.of_eq ?_ ?_ ?_ ?_ ?_ ?_) h _ ?_
  all_goals simp

theorem Quiet.requestHalt (h : Head) : Quiet s (s.requestHalt h) := by
  rw [State.requestHalt_eq]
  refine Quiet.modHead (.of_eq ?_ ?_ ?_ ?_ ?_ ?_) h HeadRecord.halting fun ho => ho
  all_goals simp

theorem Quiet.endFrame (link : Link) (error : LinkError) : Quiet s (s.endFrame link error) := by
  refine ⟨⟨.single (.raised _ _), fun h => ?_, fun h => ?_⟩, rfl, rfl, fun h ho => by
    rwa [State.head_of_heads h (State.endFrame_heads s link error)] at ho⟩
  · have up (n : Nat) : countUp n ≤ 65535 := Nat.min_le_left _ _
    obtain ⟨a, b, c, d⟩ := h
    rw [State.CountersLaw, State.endFrame_counters]
    cases link <;> cases error
    · exact ⟨up _, b, c, d⟩
    · exact ⟨a, up _, c, d⟩
    · exact ⟨a, b, up _, d⟩
    · exact ⟨a, b, c, up _⟩
  · cases link with
    | line => exact ⟨rfl, h.2⟩
    | drive => exact ⟨h.1, rfl⟩

/-! #### Fault entry, reports and admission -/

theorem Quiet.enterFault (h : Head) (cause : FaultCause) (issue : Option Byte) (code : Byte) :
    Quiet s (s.enterFault h cause issue code) := by
  rw [State.enterFault_eq]
  refine Quiet.modHead (.of_out (.tail (.single (.replied _)) (.raised _ _)) ?_ ?_ ?_ ?_ ?_) h _ nofun <;> simp

theorem Quiet.handFault (h : Head) (cause : FaultCause) (issue : Option Byte) (code : Byte) :
    Quiet s (s.handFault h cause issue code) := by
  rw [State.handFault]
  cases (s.head h).state with
  | off => exact .refl s
  | fault => exact .modHead (.refl s) h _ id
  | ready | cutting | held => exact .enterFault s h cause issue code

/-- An emptied list pays an owed hold REPLY; no debt begins (R127). -/
theorem HeadRecord.reportTaken_owed (hd : HeadRecord) (reported : Point)
    (h : (hd.reportTaken reported).holdReplyOwed = true) : hd.holdReplyOwed = true :=
  (Bool.and_eq_true_iff.mp h).1

theorem Quiet.takeComplete (h : Head) (r : InFlight) : Quiet s (s.takeComplete h r) := by
  have noted : OutSteps s.out ((s.recordGone h r (r.pathLength + 1) .complete none).derateNoted h r).out := by
    rw [State.withOut_out]
    split
    · exact .tail (.single (.noticed _)) (.raised _ _)
    · exact .single (.noticed _)
  rw [State.takeComplete_eq]
  refine Quiet.modHead (.of_out (noted.tail (.replied (s.replyAfterReport h r.stroke.finish))) ?_ ?_ ?_ ?_ ?_) h _
    (HeadRecord.reportTaken_owed _ r.stroke.finish)
  all_goals simp

theorem Quiet.takeHalted (h : Head) (r : InFlight) (k : Nat) (stop : Point) : Quiet s (s.takeHalted h r k stop) := by
  rw [State.takeHalted_eq]
  refine Quiet.modHead (.of_out (.tail (.single (.noticed _)) (.replied _)) ?_ ?_ ?_ ?_ ?_) h _
    (HeadRecord.reportTaken_owed _ stop)
  all_goals simp

theorem Quiet.refuseStroke (h : Head) (q : QueuedStroke) (reason : RefusalReason) :
    Quiet s (s.refuseStroke h q reason) := by
  rw [State.refuseStroke_eq]
  refine Quiet.modHead (.of_out (.single (.raised _ _)) ?_ ?_ ?_ ?_ ?_) h _ fun ho => ho
  all_goals simp

theorem Quiet.issueStroke {h : Head} (q : QueuedStroke) (rating : Rating) (fp : List CellRef)
    (front : (s.head h).queue ≠ []) : Quiet s (s.issueStroke h q rating fp) := by
  have noted : OutSteps s.out (s.issuedAround h q rating fp).out := by
    simp only [State.withOccasions_out, State.withDrive_out, State.withWaitList_out, State.withCells_out,
      State.withOut_out]
    split
    · exact .single (.raised _ _)
    · exact .refl
  rw [State.issueStroke_eq _ _ _ _ _ front]
  refine Quiet.modHead (.of_out noted ?_ ?_ ?_ ?_ ?_) h _ fun ho => ho
  all_goals simp

theorem Quiet.recordWait (h : Head) (fp : List CellRef) : Quiet s (s.recordWait h fp) :=
  .of_out (State.recordWait_out s h fp ▸ .refl) (by simp) (by simp) (by simp) (by simp) (by simp)

theorem Quiet.resolveRestore (h : Head) (p : Point) : Quiet s ((s.resolveAll h).modHead h (HeadRecord.restore p)) := by
  rw [State.resolveAll_restore_eq]
  refine Quiet.modHead (.of_out (.single (.noticed _)) ?_ ?_ ?_ ?_ ?_) h _ fun ho => ho
  all_goals simp

end

end Sys2Proof.Machine

/-! ### The command slot, the REPLY and the long commands (R153, R154, R158) -/

namespace Sys2Proof.Machine

/-! #### The law of the slot -/

/-- A head that still owes a hold REPLY stays in HELD with strokes in flight (R127). -/
abbrev HeadRecord.KeepsHold (hd hd' : HeadRecord) : Prop :=
  hd'.holdReplyOwed = true → hd.holdReplyOwed = true ∧
    (hd.state = .held → hd.inFlight ≠ [] → hd'.state = .held ∧ hd'.inFlight ≠ [])

theorem HeadRecord.KeepsHold.refl (hd : HeadRecord) : hd.KeepsHold hd := fun owed => ⟨owed, fun held busy => ⟨held, busy⟩⟩

section
variable {s t : State}

theorem holdsHold_load {h : Head} {c : Option Instr} (hc : holdsLoad c = true) : holdsHold h c = false := by
  rcases c with _ | c
  · rfl
  · cases c with
    | loadBlock => rfl
    | _ => cases hc

theorem holdsHold_unload {h : Head} {c : Option Instr} (hc : holdsUnload c = true) : holdsHold h c = false := by
  rcases c with _ | c
  · rfl
  · cases c with
    | unloadBlock => rfl
    | _ => cases hc

theorem holdsUnload_load {c : Option Instr} (hc : holdsLoad c = true) : holdsUnload c = false := by
  rcases c with _ | c
  · rfl
  · cases c with
    | loadBlock => rfl
    | _ => cases hc

theorem holdsHold_inj {g h : Head} {c : Option Instr} (hg : holdsHold g c = true) (hh : holdsHold h c = true) :
    g = h := by
  simp only [holdsHold] at hg hh
  split at hg
  · exact (beq_iff_eq.mp hg).symm.trans (beq_iff_eq.mp hh)
  · cases hg
  · cases hg

theorem holdsHold_isSome {h : Head} {c : Option Instr} (hc : holdsHold h c = true) : c.isSome = true := by
  cases c with
  | none => cases hc
  | some c => rfl

/-- The law stays while slot, transmitter, REPLY and visits stay and no hold comes to be owed. -/
theorem State.SlotLaw.kept (hs : s.SlotLaw) (slot : t.mgmt.slot = s.mgmt.slot) (tx : t.out.tx = s.out.tx)
    (state : t.block.state = s.block.state) (visit : t.block.unloadVisit = true → s.block.unloadVisit = true)
    (reply : t.out.replySlot = s.out.replySlot) (heads : ∀ h, (s.head h).KeepsHold (t.head h)) : t.SlotLaw := by
  obtain ⟨sent, taken, load, unload, hold⟩ := hs
  refine ⟨?_, ?_, ?_, ?_, fun h ho => ?_⟩
  · rwa [tx, reply]
  · rwa [slot, reply]
  · rwa [state, slot, reply]
  · exact fun hv => by rw [slot, reply]; exact unload (visit hv)
  · obtain ⟨owed, waits⟩ := heads h ho
    obtain ⟨holds, none, held, busy⟩ := hold h owed
    exact ⟨slot ▸ holds, reply.trans none, waits held busy⟩

/-- The law stays when the one owed hold REPLY is paid (R127, R158). -/
theorem State.SlotLaw.paid {h : Head} (hs : s.SlotLaw) (owed : (s.head h).holdReplyOwed = true)
    (slot : t.mgmt.slot = s.mgmt.slot) (tx : t.out.tx = s.out.tx) (block : t.block = s.block)
    (heads : ∀ g, (t.head g).holdReplyOwed = true → (s.head g).holdReplyOwed = true ∧ g ≠ h) : t.SlotLaw := by
  obtain ⟨sent, -, load, unload, hold⟩ := hs
  obtain ⟨holds, none, -, -⟩ := hold h owed
  refine ⟨fun p hp r hr => ?_, fun _ _ => ?_, fun hl => ?_, fun hv => ?_, fun g hg => ?_⟩
  · rw [tx] at hp
    have := sent p hp r hr
    simp [none] at this
  · rw [slot]
    exact holdsHold_isSome holds
  · rw [block] at hl
    simp [holdsHold_load (load hl).1] at holds
  · rw [block] at hv
    simp [holdsHold_unload (unload hv).1] at holds
  · obtain ⟨owed', other⟩ := heads g hg
    exact absurd (holdsHold_inj (hold g owed').1 holds) other

/-- The law of a taken command that waits for nothing: no long command is under way. -/
theorem State.SlotLaw.calm (slot : t.mgmt.slot.isSome = true) (tx : ∀ p ∈ t.out.tx, p.frame.replyOf = none)
    (state : t.block.state ≠ .initialising) (visit : t.block.unloadVisit = false)
    (heads : ∀ h, (t.head h).holdReplyOwed = false) : t.SlotLaw :=
  ⟨fun p hp r hr => (by rw [tx p hp] at hr; cases hr), fun _ _ => slot, fun h => absurd h state,
    fun h => (by rw [visit] at h; cases h), fun h ho => (by rw [heads h] at ho; cases ho)⟩

end

/-! #### Commands that take no slot -/

/-- What a command that is no MANAGE command and ends no frame or visit does: the slot's law stays. -/
structure Plain (s t : State) : Prop extends Quiet s t where
  law : s.SlotLaw → t.SlotLaw

theorem Plain.refl (s : State) : Plain s s := ⟨.refl s, id⟩

theorem Plain.trans {s t u : State} (a : Plain s t) (b : Plain t u) : Plain s u :=
  ⟨a.toQuiet.trans b.toQuiet, b.law ∘ a.law⟩

theorem Plain.of_quiet {s t : State} (q : Quiet s t)
    (reply : t.out.replySlot = s.out.replySlot) (heads : ∀ h, (s.head h).KeepsHold (t.head h)) : Plain s t :=
  ⟨q, fun hs => hs.kept q.slot q.out.frame.1 (by rw [q.block]) (by rw [q.block]; exact id) reply heads⟩

/-- An update that leaves the records of the heads. -/
theorem Plain.of_heads {s t : State} (q : Quiet s t) (reply : t.out.replySlot = s.out.replySlot) (heads : t.heads = s.heads) : Plain s t :=
  .of_quiet q reply fun h => by rw [State.head_of_heads h heads]; exact .refl _

section
variable (s : State)

theorem Plain.modHead (h : Head) (f : HeadRecord → HeadRecord) (keeps : (s.head h).KeepsHold (f (s.head h))) :
    Plain s (s.modHead h f) := by
  refine .of_quiet (.modHead (.refl s) h f fun ho => (keeps ho).1) rfl fun g => ?_
  rw [State.head_modHead]
  split
  · next e => subst e; exact keeps
  · exact .refl _

/-- A change of one record that leaves its debt, its state and its list. -/
theorem Plain.modHead_beside {u : State} (p : Plain s u) (h : Head) (f : HeadRecord → HeadRecord)
    (same : ∀ hd, (f hd).holdReplyOwed = hd.holdReplyOwed ∧ (f hd).state = hd.state ∧ (f hd).inFlight = hd.inFlight) :
    Plain s (u.modHead h f) := by
  refine p.trans (.modHead u h f fun owed => ?_)
  obtain ⟨debt, state, list⟩ := same (u.head h)
  rw [debt] at owed
  rw [state, list]
  exact ⟨owed, fun held busy => ⟨held, busy⟩⟩

theorem Plain.raise (cls : EventClass) (d : Details) : Plain s (s.raise cls d) :=
  .of_heads (.raise s cls d) (Outbound.raise_replySlot ..) rfl

theorem Plain.raiseOccasion (o : Occasion) : Plain s (s.raiseOccasion o) :=
  .of_heads (.raiseOccasion s o) (by simp) (by simp)

theorem Plain.withOccasions (l : List Occasion) : Plain s (s.withOccasions l) :=
  .of_heads (.of_eq rfl rfl rfl rfl rfl rfl) rfl rfl

theorem Plain.endFrame (link : Link) (error : LinkError) : Plain s (s.endFrame link error) :=
  .of_heads (.endFrame s link error) (by rw [(s.endFrame_dropFrame link error).2]; exact Outbound.raise_replySlot ..) (by simp)

theorem Plain.setStop (level : Bool) : Plain s (s.setStop level) := .of_heads (.of_eq rfl rfl rfl rfl rfl rfl) rfl rfl

/-- A fault entry pays an owed hold REPLY (R127, R131). -/
theorem Plain.enterFault (h : Head) (cause : FaultCause) (issue : Option Byte) (code : Byte) :
    Plain s (s.enterFault h cause issue code) := by
  have quiet := Quiet.enterFault s h cause issue code
  have record (g : Head) (ho : ((s.enterFault h cause issue code).head g).holdReplyOwed = true) :
      g ≠ h ∧ (s.enterFault h cause issue code).head g = s.head g := by
    rw [State.enterFault_head] at ho ⊢
    by_cases e : g = h
    · rw [if_pos e] at ho; cases ho
    · exact ⟨e, if_neg e⟩
  by_cases owed : (s.head h).holdReplyOwed = true
  · exact ⟨quiet, fun hs => hs.paid owed quiet.slot quiet.out.frame.1 quiet.block fun g hg =>
      ⟨quiet.owed g hg, (record g hg).1⟩⟩
  · refine .of_quiet quiet ?_ fun g hg => ?_
    · rw [State.enterFault_eq]
      exact (Outbound.raise_replySlot ..).trans (if_neg owed)
    · obtain ⟨-, same⟩ := record g hg
      rw [same] at hg ⊢
      exact HeadRecord.KeepsHold.refl _ hg

theorem Plain.handFault (h : Head) (cause : FaultCause) (issue : Option Byte) (code : Byte) :
    Plain s (s.handFault h cause issue code) := by
  rw [State.handFault]
  cases (s.head h).state with
  | off => exact .refl s
  | fault => exact .modHead s h _ (.refl _)
  | ready | cutting | held => exact .enterFault s h cause issue code

/-- A report of a head: the list that empties in HELD pays an owed hold REPLY (R127). -/
theorem Plain.reported {u : State} {h : Head} {f : HeadRecord → HeadRecord} {stop : Point}
    (quiet : Quiet s (u.modHead h f)) (reply : u.out.replySlot = s.replyAfterReport h stop)
    (heads : u.heads = s.heads)
    (taken : (f (s.head h)).holdReplyOwed = ((s.head h).reportTaken stop).holdReplyOwed ∧
      (f (s.head h)).state = ((s.head h).reportTaken stop).state ∧
      (f (s.head h)).inFlight = ((s.head h).reportTaken stop).inFlight) : Plain s (u.modHead h f) := by
  obtain ⟨owed, state, list⟩ := taken
  have hu (g : Head) : u.head g = s.head g := State.head_of_heads g heads
  have pays : ((s.head h).inFlight.tail = [] ∧ (s.head h).state = .held ∧ (s.head h).holdReplyOwed = true) →
      (f (s.head h)).holdReplyOwed = false := by
    rintro ⟨empty, held, -⟩
    rw [owed]
    simp [HeadRecord.reportTaken, HeadRecord.afterReport, empty, held]
  by_cases due : (s.head h).inFlight.tail = [] ∧ (s.head h).state = .held ∧ (s.head h).holdReplyOwed = true
  · refine ⟨quiet, fun hs => hs.paid due.2.2 quiet.slot quiet.out.frame.1 quiet.block fun g hg => ⟨quiet.owed g hg, ?_⟩⟩
    rintro rfl
    rw [State.head_modHead_same, hu, pays due] at hg
    cases hg
  · refine .of_quiet quiet ?_ fun g => ?_
    · rw [State.modHead_out, reply, State.replyAfterReport, if_neg due]
    · rw [State.head_modHead, hu]
      split
      · next e =>
        subst e
        intro ho
        rw [owed] at ho
        have owes := HeadRecord.reportTaken_owed _ _ ho
        refine ⟨owes, fun held _ => ⟨?_, fun empty => due ⟨?_, held, owes⟩⟩⟩
        · rw [state]
          simp [HeadRecord.reportTaken, HeadRecord.afterReport, held]
        · rw [list] at empty
          exact HeadRecord.listAfter_eq_nil.mp empty
      · exact .refl _

/-! #### Reports, samples and admission -/

theorem Plain.thenFault {s u : State} (p : Plain s u) (h : Head) (cause : FaultCause) (issue : Option Byte)
    (code : Byte) : Plain s (u.handFault h cause issue code) := p.trans (.handFault u h cause issue code)

theorem Plain.thenRaise {s u : State} (p : Plain s u) (cls : EventClass) (d : Details) : Plain s (u.raise cls d) :=
  p.trans (.raise u cls d)

theorem Plain.takeComplete (h : Head) (r : InFlight) : Plain s (s.takeComplete h r) := by
  have quiet := Quiet.takeComplete s h r
  rw [State.takeComplete_eq] at quiet ⊢
  refine Plain.reported s (stop := r.stroke.finish) quiet ?_ ?_ ⟨rfl, rfl, rfl⟩ <;> simp

theorem Plain.takeHalted (h : Head) (r : InFlight) (k : Nat) (stop : Point) : Plain s (s.takeHalted h r k stop) := by
  have quiet := Quiet.takeHalted s h r k stop
  rw [State.takeHalted_eq] at quiet ⊢
  refine Plain.reported s (stop := stop) quiet ?_ ?_ ⟨rfl, rfl, rfl⟩ <;> simp

theorem Plain.alive (h : Head) : Plain s (s.modHead h HeadRecord.signOfLife) := by
  refine .modHead s h _ ?_
  rw [HeadRecord.signOfLife_eq]
  exact .refl _

theorem Plain.complete (h : Head) (issue : Byte) : Plain s (completeEffect h issue s) := by
  rw [completeEffect]
  split
  · exact (Plain.takeComplete s h _).trans (.alive _ h)
  · exact (Plain.raise s _ _).trans (.alive _ h)

theorem Plain.halted (h : Head) (issue : Byte) (k : Nat) (stop : Point) : Plain s (haltedEffect h issue k stop s) := by
  rw [haltedEffect]
  split
  · exact (Plain.takeHalted s h _ k stop).trans (.alive _ h)
  · exact (Plain.raise s _ _).trans (.alive _ h)

theorem Plain.driveFault (h : Head) (issue code : Byte) : Plain s (driveFaultEffect h issue code s) := by
  rw [driveFaultEffect]
  split
  · exact .endFrame s _ _
  · split
    · exact .raise s _ _
    · exact .handFault s h _ _ _

theorem Plain.statusGapExpiry (h : Head) : Plain s (statusGapExpiryEffect h s) := by
  rw [statusGapExpiryEffect]
  split
  · exact .refl s
  · refine .thenFault (.modHead_beside s (.refl s) h _ ?_) h _ _ _
    exact fun _ => ⟨rfl, rfl, rfl⟩

theorem Plain.overdueExpiry (h : Head) : Plain s (overdueExpiryEffect h s) := by
  rw [overdueExpiryEffect]
  split
  · refine .thenFault (.modHead_beside s (.refl s) h _ ?_) h _ _ _
    exact fun _ => ⟨rfl, rfl, rfl⟩
  · exact .refl s

theorem Plain.stopHeads : Plain s s.stopHeads :=
  (((Plain.handFault s 0 _ _ _).trans (.handFault _ 1 _ _ _)).trans (.handFault _ 2 _ _ _)).trans (.handFault _ 3 _ _ _)

theorem Plain.machineStopAsserted : Plain s (machineStopAssertedEffect s) := by
  rw [machineStopAssertedEffect]
  split
  · exact .refl s
  · exact ((Plain.setStop s true).trans (.stopHeads _)).trans (.raise _ _ _)

theorem Plain.machineStopDeasserted : Plain s (machineStopDeassertedEffect s) := by
  rw [machineStopDeassertedEffect]
  split
  · exact (Plain.setStop s false).trans (.raise _ _ _)
  · exact .refl s

theorem HeadRecord.markSawHigh_inFlight (hd : HeadRecord) (h : hd.inFlight ≠ []) : hd.markSawHigh.inFlight ≠ [] := by
  rw [HeadRecord.markSawHigh]
  split
  · exact h
  · exact List.cons_ne_nil _ _

theorem Plain.drag (h : Head) (cls : DragClass) : Plain s (s.modHead h (HeadRecord.drag cls)) := by
  refine .modHead s h _ fun owed => ?_
  rw [HeadRecord.drag_eq] at owed ⊢
  refine ⟨owed, fun held busy => ⟨held, ?_⟩⟩
  cases cls with
  | above => exact HeadRecord.markSawHigh_inFlight _ busy
  | below | within => exact busy

theorem Plain.dragCheck (h : Head) (r : InFlight) (drag : Nat) : Plain s (s.dragCheck h r drag) := by
  simp only [State.dragCheck]
  have dragged := Plain.drag s h (dragClass r drag)
  split
  · split
    · simp only [State.highRunReached, State.changeDerate]
      split
      · refine .thenRaise (.modHead_beside _ (.modHead_beside _ dragged h _ ?_) h _ ?_) _ _
        · exact fun _ => ⟨rfl, rfl, rfl⟩
        · exact fun _ => ⟨rfl, rfl, rfl⟩
      · exact .thenFault dragged h _ _ _
    · exact dragged
  · split
    · exact .thenFault dragged h _ _ _
    · exact dragged
  · exact dragged

theorem Plain.status (h : Head) (executing : Option Byte) (drag cycles ms : Nat) :
    Plain s (statusEffect h executing drag cycles ms s) := by
  have cycles (u : State) (r : InFlight) : Plain u (u.cycleCheck h r cycles ms) := by
    simp only [State.cycleCheck]
    generalize (if shortSample r.rate cycles ms (u.head h).monitorSettings.tolerance = true
      then (u.head h).monitor.stallRun + 1 else 0) = run
    have sampled : Plain u (u.modHead h fun hd => { hd with monitor := { hd.monitor with stallRun := run } }) :=
      Plain.modHead_beside u (.refl u) h _ fun _ => ⟨rfl, rfl, rfl⟩
    split
    · exact .thenFault sampled h _ _ _
    · exact sampled
  rw [statusEffect]
  split
  · exact .refl s
  · simp only [State.sample]
    split
    · split
      · exact (Plain.alive s h).trans (.dragCheck _ h _ _)
      · exact ((Plain.alive s h).trans (.dragCheck _ h _ _)).trans (cycles _ _)
    · exact .alive s h

theorem Plain.evaluate (h : Head) : Plain s (s.evaluate h) := by
  have waiting (fp : List CellRef) : Plain s (s.recordWait h fp) :=
    .of_heads (.recordWait s h fp) (by simp) (by simp)
  rw [State.evaluate]
  cases hq : (s.head h).queue with
  | nil => exact .refl s
  | cons q rest =>
    simp only
    cases hv : s.verdict h q with
    | waitNoBlock | waitHead | waitInFlight | waitNotice => exact .refl s
    | waitClaim fp | waitYield fp => exact waiting fp
    | refuse reason =>
      have quiet := Quiet.refuseStroke s h q reason
      simp only
      rw [State.refuseStroke_eq] at quiet ⊢
      refine .of_quiet quiet (by simp [State.raise]) fun g => ?_
      rw [State.head_modHead]
      split
      · next e => subst e; exact fun owed => ⟨owed, fun _ busy => ⟨rfl, busy⟩⟩
      · exact .refl _
    | issue rating fp =>
      have queued : (s.head h).queue ≠ [] := by simp [hq]
      have quiet := Quiet.issueStroke s q rating fp queued
      simp only
      rw [State.issueStroke_eq _ _ _ _ _ queued] at quiet ⊢
      refine .of_quiet quiet ?_ fun g => ?_
      · simp only [State.modHead_out, State.withOccasions_out, State.withDrive_out, State.withWaitList_out,
          State.withCells_out, State.withOut_out]
        split
        · exact Outbound.raise_replySlot ..
        · rfl
      · have same : (s.issuedAround h q rating fp).head g = s.head g := State.head_of_heads g (by simp)
        rw [State.head_modHead, same]
        split
        · next e =>
          subst e
          refine fun owed => ⟨owed, fun held _ => ⟨?_, ?_⟩⟩
          · simp [HeadRecord.strokeIssued, held]
          · simp [HeadRecord.strokeIssued]
        · exact .refl _

theorem Plain.foldl_evaluate (l : List Head) : Plain s (l.foldl (fun s h => s.evaluate h) s) := by
  induction l generalizing s with
  | nil => exact .refl s
  | cons h l ih => exact (Plain.evaluate s h).trans (ih _)

theorem Plain.evaluation (h : Head) : Plain s (evaluationEffect h s) := by
  rw [evaluationEffect]
  split
  · split
    · exact (Plain.withOccasions s _).trans (.evaluate _ h)
    · exact .refl s
  all_goals exact .refl s

theorem Plain.pass : Plain s (passEffect s) := by
  rw [passEffect]
  split
  · exact (Plain.withOccasions s _).trans (.foldl_evaluate _ _)
  all_goals exact .refl s

theorem Plain.stroke (st : Stroke) : Plain s (strokeEffect st s) := by
  have joined : Plain s (s.modHead st.head fun hd => { hd with queue := hd.queue ++ [⟨st, s.marks st⟩] }) :=
    Plain.modHead_beside s (.refl s) st.head _ fun _ => ⟨rfl, rfl, rfl⟩
  rw [strokeEffect]
  split
  · simp only [State.accept]
    split
    · exact joined.trans (.raiseOccasion _ _)
    · exact joined
  · exact .raise s _ _

theorem Plain.driveFrameSent : Plain s (driveFrameSentEffect s) := .of_heads (.of_eq rfl rfl rfl rfl rfl rfl) rfl rfl

end

end Sys2Proof.Machine

/-! ### MANAGE commands, visits and the ends of frames against the command slot (R1, R2, R153, R154, R158) -/

namespace Sys2Proof.Machine

/-! #### MANAGE commands -/

section
variable (s : State)

theorem Quiet.thenAnswer {s u : State} (q : Quiet s u) (status : Status) (results : Results) :
    Quiet s (u.answer status results) := q.trans (.answer u status results)

theorem Quiet.thenOccasion {s u : State} (q : Quiet s u) (o : Occasion) : Quiet s (u.raiseOccasion o) :=
  q.trans (.raiseOccasion u o)

theorem Quiet.writeGrade (ops : WriteGradeOps) : Quiet s (writeGradeEffect ops s) := by
  rw [writeGradeEffect]
  split
  · split
    · refine .thenAnswer (.thenOccasion (.of_eq ?_ ?_ ?_ ?_ ?_ ?_) _) _ _ <;> rfl
    · exact .refuse s _
  · exact .refuse s _

theorem Quiet.setNotifyWindow (ops : NotifyWindowOps) : Quiet s (setNotifyWindowEffect ops s) := by
  rw [setNotifyWindowEffect]
  split
  · refine .thenAnswer (.of_eq ?_ ?_ ?_ ?_ ?_ ?_) _ _ <;> rfl
  · exact .refuse s _

theorem Quiet.writeSettings {s u : State} (q : Quiet s u) (ops : SetHeadOps) (previous : Settings) :
    Quiet s (u.writeSettings ops previous) :=
  .thenAnswer (.thenOccasion (.modHead q ops.head _ fun owed => owed) _) _ _

theorem Quiet.setHead (ops : SetHeadOps) : Quiet s (setHeadEffect ops s) := by
  simp only [setHeadEffect]
  split
  · exact .refuse s _
  · split
    · exact .refuse s _
    · exact .writeSettings (.refl s) ops _
    · refine .thenOccasion (.writeSettings (.modHead (.refl s) ops.head _ ?_) ops _) _
      exact fun owed => owed
    · exact .writeSettings (.enterOff s ops.head) ops _

theorem Quiet.setPosition (ops : HeadPointOps) : Quiet s (setPositionEffect ops s) := by
  simp only [setPositionEffect]
  split
  · exact .refuse s _
  · split
    · exact .refuse s _
    · exact .thenAnswer (.modHead (.refl s) ops.head (HeadRecord.placeAt ops.point) fun owed => owed) _ _

theorem Quiet.releaseHead (ops : HeadOps) : Quiet s (releaseHeadEffect ops s) := by
  simp only [releaseHeadEffect]
  split
  · refine .thenAnswer (.thenOccasion (.modHead (.refl s) ops.head _ ?_) _) _ _
    exact fun owed => owed
  · exact .refuse s _

theorem Quiet.clearHead (ops : HeadPointOps) : Quiet s (clearHeadEffect ops s) := by
  simp only [clearHeadEffect]
  split
  · exact .refuse s _
  · split
    · exact .refuse s _
    · exact .thenOccasion (.thenAnswer (.resolveRestore s ops.head ops.point) _ _) _

theorem Quiet.setMonitor (ops : SetMonitorOps) : Quiet s (setMonitorEffect ops s) := by
  rw [setMonitorEffect]
  split
  · refine .thenAnswer (.modHead (.refl s) ops.head _ ?_) _ _
    exact fun owed => owed
  · exact .refuse s _

theorem Quiet.setTimers (ops : SetTimersOps) : Quiet s (setTimersEffect ops s) := by
  rw [setTimersEffect]
  split
  · refine .thenAnswer (.modHead (.refl s) ops.head _ ?_) _ _
    exact fun owed => owed
  · exact .refuse s _

theorem Quiet.setPreset (src : Source) (ops : SetPresetOps) : Quiet s (setPresetEffect src ops s) := by
  simp only [setPresetEffect]
  split
  · exact .refuse s _
  · refine .thenAnswer (.of_eq ?_ ?_ ?_ ?_ ?_ ?_) _ _ <;> rfl

theorem Quiet.setSource (src : Source) (ops : SetSourceOps) : Quiet s (setSourceEffect src ops s) := by
  simp only [setSourceEffect]
  split
  · exact .refuse s _
  · split
    · refine .thenAnswer (.of_eq ?_ ?_ ?_ ?_ ?_ ?_) _ _ <;> rfl
    · exact .refuse s _

theorem Quiet.spanWrite (src : Source) (ops : SpanWriteOps) : Quiet s (spanWriteEffect src ops s) := by
  rw [spanWriteEffect]
  split
  · exact .refuse s _
  · split
    · exact .refuse s _
    · split
      · exact .refuse s _
      · split
        · exact .refuse s _
        · simp only [State.writeSpan]
          split
          · exact .thenAnswer (.modCells s _ _) _ _
          · exact .thenAnswer (.thenOccasion (.modCells s _ _) _) _ _

theorem Quiet.spanQuery (ops : SpanQueryOps) : Quiet s (spanQueryEffect ops s) := by
  rw [spanQueryEffect]
  split
  · exact .refuse s _
  · split
    · exact .refuse s _
    · exact .answer s _ _

theorem Quiet.readCell (ops : ReadCellOps) : Quiet s (readCellEffect ops s) := by
  simp only [readCellEffect]
  split
  · exact .refuse s _
  · split
    · exact .refuse s _
    · exact .answer s _ _

theorem Quiet.readStatus (ops : ReadStatusOps) : Quiet s (readStatusEffect ops s) := by
  simp only [readStatusEffect]
  have read := Quiet.answer s .ok (.readStatus s.statusRecord)
  split
  · refine read.trans ⟨⟨.refl, fun _ => ?_, fun h => h⟩, rfl, rfl, fun _ h => h⟩
    show LinkCounters.zero.lineCrc ≤ _ ∧ LinkCounters.zero.lineMalformed ≤ _ ∧ LinkCounters.zero.driveCrc ≤ _ ∧
      LinkCounters.zero.driveMalformed ≤ _
    decide
  · exact read

theorem Quiet.setJobTag (ops : SetJobTagOps) : Quiet s (setJobTagEffect ops s) := by
  refine .thenAnswer (.of_eq ?_ ?_ ?_ ?_ ?_ ?_) _ _ <;> rfl

theorem Quiet.flushQueue (ops : HeadOps) : Quiet s (flushQueueEffect ops s) := .thenAnswer (.flush s ops.head) _ _

/-- A hold of R125, the REPLY aside. -/
theorem Quiet.hold (h : Head) (hard : Bool) : Quiet s (s.hold h hard) := by
  unfold State.hold
  split
  · exact .refl s
  · refine Quiet.trans (.modHead (.refl s) h _ ?_) (.requestHalt _ h)
    exact fun owed => owed
  · exact .enterHeld s h .soft
  · exact (Quiet.enterHeld s h .hard).trans (.requestHalt _ h)

theorem State.hold_out (h : Head) (hard : Bool) : (s.hold h hard).out = s.out := by
  unfold State.hold
  split
  · rfl
  · rw [State.requestHalt_out, State.modHead_out]
  · rw [State.enterHeld_eq]; simp
  · rw [State.requestHalt_out, State.enterHeld_eq]; simp

/-- A hold leaves its head in HELD (R125). -/
theorem State.hold_state (h : Head) (hard : Bool) :
    ((s.hold h hard).head h).state = .held := by
  have halted (u : State) (hu : (u.head h).state = .held) : ((u.requestHalt h).head h).state = .held := by
    rw [State.requestHalt_eq, State.head_modHead_same]
    exact hu
  have entered (cause : HoldCause) : ((s.enterHeld h cause).head h).state = .held := by
    rw [State.enterHeld_eq, State.head_modHead_same]
  unfold State.hold
  split
  · next held => exact held
  · next held => exact halted _ (by rw [State.head_modHead_same]; exact held)
  · exact entered _
  · exact halted _ (entered _)

end

/-! #### A command that has just been taken -/

/-- The command slot holds a command to which no REPLY stands or is being sent, and no long command waits (R153). -/
structure State.Taken (s : State) (c : Instr) : Prop where
  slot : s.mgmt.slot = some c
  reply : s.out.replySlot = none
  tx : ∀ p ∈ s.out.tx, p.frame.replyOf = none
  state : s.block.state ≠ .initialising
  visit : s.block.unloadVisit = false
  owed : ∀ h, (s.head h).holdReplyOwed = false

section
variable {s t : State} {c : Instr}

theorem Quiet.owed_false (q : Quiet s t) {h : Head} (hs : (s.head h).holdReplyOwed = false) :
    (t.head h).holdReplyOwed = false :=
  Bool.eq_false_iff.mpr fun ho => by simpa [hs] using q.owed h ho

/-- A taken command that does nothing to the slot leaves its law. -/
theorem State.Taken.quiet (hs : s.Taken c) (q : Quiet s t) : t.SlotLaw := by
  refine .calm ?_ ?_ ?_ ?_ fun h => q.owed_false (hs.owed h)
  · rw [q.slot, hs.slot]; rfl
  · rw [q.out.frame.1]; exact hs.tx
  · rw [q.block]; exact hs.state
  · rw [q.block]; exact hs.visit

/-- A MANAGE command takes an empty slot, which nothing awaits then (R153). -/
theorem State.SlotLaw.taken (hs : s.SlotLaw) (free : s.mgmt.slot = none) :
    (s.withMgmt { s.mgmt with slot := some c }).Taken c := by
  obtain ⟨sent, taken, load, unload, hold⟩ := hs
  have reply : s.out.replySlot = none := by
    cases hr : s.out.replySlot with
    | none => rfl
    | some r => have := taken r hr; simp [free] at this
  refine ⟨rfl, reply, fun p hp => ?_, fun hi => ?_, ?_, fun h => ?_⟩
  · cases hr : p.frame.replyOf with
    | none => rfl
    | some r => have := sent p hp r hr; simp [reply] at this
  · have := (load hi).1
    simp [free, holdsLoad] at this
  · refine Bool.eq_false_iff.mpr fun hv => ?_
    have := (unload hv).1
    simp [free, holdsUnload] at this
  · refine Bool.eq_false_iff.mpr fun ho => ?_
    have := (hold h ho).1
    simp [free, holdsHold] at this

/-- A MANAGE command keeps the slot's law when its unit does (R153 to R156). -/
theorem State.SlotLaw.manageTo {α : Type} (hs : s.SlotLaw) (c : Instr) (hdr : Header) (ops : Operands α)
    {f : α → State → State} (hf : ∀ a, ops = .given a → ∀ u : State, u.Taken c → (f a u).SlotLaw) :
    (Machine.manageTo c hdr ops f s).SlotLaw := by
  rw [Machine.manageTo]
  split
  · exact (Plain.raise s _ _).law hs
  · next free =>
    cases ops with
    | wrongLength => exact (hs.taken free).quiet (.refuse _ _)
    | given a => exact hf a rfl _ (hs.taken free)

/-- LOAD_BLOCK holds the slot until its visit ends (R15, R16). -/
theorem State.Taken.loadBlock {hdr : Header} {given : Operands LoadBlockOps} (hs : s.Taken (.loadBlock hdr given))
    (ops : LoadBlockOps) : (loadBlockEffect ops s).SlotLaw := by
  rw [loadBlockEffect]
  split
  · exact hs.quiet (.refuse s _)
  · split
    · exact hs.quiet (.refuse s _)
    · have q := Quiet.flushAll s
      have out : s.flushAll.out = s.out := by
        show ((((s.flush 0).flush 1).flush 2).flush 3).out = s.out
        simp
      refine ⟨fun p hp r hr => ?_, fun _ _ => ?_, fun _ => ⟨?_, ?_⟩, fun hv => ?_, fun h ho => ?_⟩
      · exact absurd ((hs.tx p (out ▸ hp)).symm.trans hr) nofun
      · show s.mgmt.slot.isSome = true
        rw [hs.slot]; rfl
      · show holdsLoad s.mgmt.slot = true
        rw [hs.slot]; rfl
      · show s.flushAll.out.replySlot = none
        rw [out, hs.reply]
      · simp [State.beginBlock, loadRecord] at hv
      · have ho : (s.flushAll.head h).holdReplyOwed = true := by simpa [State.beginBlock] using ho
        rw [q.owed_false (hs.owed h)] at ho
        cases ho

/-- UNLOAD_BLOCK holds the slot until its visit ends (R19, R20). -/
theorem State.Taken.unloadBlock {hdr : Header} {given : Operands NoOps} (hs : s.Taken (.unloadBlock hdr given))
    (ops : NoOps) : (unloadBlockEffect ops s).SlotLaw := by
  have out : s.flushAll.out = s.out := by
    show ((((s.flush 0).flush 1).flush 2).flush 3).out = s.out
    simp
  have q := Quiet.flushAll s
  have visit : (s.flushAll.withBlock { s.block with unloadVisit := true }).SlotLaw := by
    refine ⟨fun p hp r hr => ?_, fun _ _ => ?_, fun h => absurd h hs.state, fun _ => ⟨?_, ?_⟩, fun h ho => ?_⟩
    · exact absurd ((hs.tx p (out ▸ hp)).symm.trans hr) nofun
    · show s.flushAll.mgmt.slot.isSome = true
      rw [q.slot, hs.slot]; rfl
    · show holdsUnload s.flushAll.mgmt.slot = true
      rw [q.slot, hs.slot]; rfl
    · show s.flushAll.out.replySlot = none
      rw [out, hs.reply]
    · rw [State.head_withBlock, q.owed_false (hs.owed h)] at ho
      cases ho
  rw [unloadBlockEffect]
  split
  · exact hs.quiet (.refuse s _)
  all_goals
    split
    · exact hs.quiet (.refuse s _)
    · exact visit

/-- HOLD_HEAD is answered at once, or holds the slot until the list of its head empties (R127). -/
theorem State.Taken.holdHead {hdr : Header} {ops : HoldHeadOps} (hs : s.Taken (.holdHead hdr (.given ops))) :
    (holdHeadEffect ops s).SlotLaw := by
  have held : ((s.hold ops.head ops.hard).oweHold ops.head).SlotLaw := by
    have q := Quiet.hold s ops.head ops.hard
    have out : (s.hold ops.head ops.hard).out = s.out := s.hold_out ops.head ops.hard
    rw [State.oweHold]
    split
    · exact hs.quiet (q.thenAnswer _ _)
    · next busy =>
      refine ⟨fun p hp r hr => ?_, fun _ _ => ?_, fun h => ?_, fun h => ?_, fun h ho => ?_⟩
      · rw [State.modHead_out, out] at hp
        exact absurd ((hs.tx p hp).symm.trans hr) nofun
      · rw [State.modHead_mgmt, q.slot, hs.slot]; rfl
      · rw [State.modHead_block, q.block] at h
        exact absurd h hs.state
      · rw [State.modHead_block, q.block, hs.visit] at h
        cases h
      · rw [State.head_modHead] at ho ⊢
        split at ho
        · next e =>
          subst e
          rw [if_pos rfl, State.modHead_mgmt, State.modHead_out, q.slot, out, hs.slot]
          exact ⟨beq_self_eq_true _, hs.reply, s.hold_state _ _, by simpa using busy⟩
        · rw [q.owed_false (hs.owed h)] at ho
          cases ho
  rw [holdHeadEffect]
  cases (s.head ops.head).state with
  | off | fault => exact hs.quiet (.refuse s _)
  | ready | cutting | held => exact held

/-- SET_EVENTS discards pending slots and is answered (R172). -/
theorem State.Taken.setEvents (hs : s.Taken c) (ops : SetEventsOps) : (setEventsEffect ops s).SlotLaw := by
  rw [setEventsEffect]
  refine State.Taken.quiet (c := c) ?_ (.answer _ _ _)
  exact ⟨hs.slot, hs.reply, hs.tx, hs.state, hs.visit, hs.owed⟩

/-- RESET_PART keeps the slot and the frame on the transmitter, and is answered (R163, R174). -/
theorem State.Taken.resetPart (hs : s.Taken c) (ops : NoOps) : (resetPartEffect ops s).SlotLaw := by
  have none (h : Head) : (State.reset.head h).holdReplyOwed = false := by
    rw [State.head, State.reset, get_eq_getElem_val, Vector.getElem_replicate]; rfl
  rw [resetPartEffect]
  split
  · exact hs.quiet (.refuse s _)
  · refine State.Taken.quiet (c := c) ?_ (.answer _ _ _)
    exact ⟨hs.slot, rfl, hs.tx, show BlockState.noBlock ≠ .initialising by decide, rfl, none⟩

/-! #### Visits and the ends of frames -/

/-- The ends of the two visits answer their command (R16, R20). -/
theorem State.SlotLaw.visitEnded {b : BlockRecord} {m : CutMap} (hs : s.SlotLaw)
    (waits : holdsLoad s.mgmt.slot = true ∨ holdsUnload s.mgmt.slot = true) (reply : s.out.replySlot = none)
    (state : b.state ≠ .initialising) (visit : b.unloadVisit = false) :
    ∃ c, ((s.withBlock b).withCells m).Taken c := by
  obtain ⟨sent, -, -, -, hold⟩ := hs
  obtain ⟨c, hc⟩ : ∃ c, s.mgmt.slot = some c := by
    cases hc : s.mgmt.slot with
    | none => simp [hc, holdsLoad, holdsUnload] at waits
    | some c => exact ⟨c, rfl⟩
  refine ⟨c, hc, reply, fun p hp => ?_, state, visit, fun h => ?_⟩
  · cases hr : p.frame.replyOf with
    | none => rfl
    | some r => have := sent p hp r hr; simp [reply] at this
  · refine Bool.eq_false_iff.mpr fun ho => ?_
    have holds := (hold h ho).1
    obtain load | unload := waits
    · simp [holdsHold_load load] at holds
    · simp [holdsHold_unload unload] at holds

theorem State.SlotLaw.initialisationVisitEnd (hs : s.SlotLaw) : (initialisationVisitEndEffect s).SlotLaw := by
  rw [initialisationVisitEndEffect]
  split
  · next hi =>
    obtain ⟨load, reply⟩ := hs.2.2.1 hi
    have visit : s.block.unloadVisit = false := Bool.eq_false_iff.mpr fun hv => by
      have := (hs.2.2.2.1 hv).1
      simp [holdsUnload_load load] at this
    obtain ⟨c, taken⟩ := hs.visitEnded (b := { s.block with state := .loaded }) (m := s.cells) (.inl load) reply nofun visit
    exact taken.quiet (.thenAnswer (.raiseOccasion _ _) _ _)
  all_goals exact hs

theorem State.SlotLaw.unloadVisitEnd (hs : s.SlotLaw) : (unloadVisitEndEffect s).SlotLaw := by
  rw [unloadVisitEndEffect]
  split
  · next hv =>
    obtain ⟨unload, reply⟩ := hs.2.2.2.1 hv
    obtain ⟨c, taken⟩ := hs.visitEnded (b := .reset) (m := []) (.inr unload) reply nofun rfl
    exact taken.quiet (.answer _ _ _)
  · exact hs

/-- A frame leaves that is no REPLY, or is placed (R169, R171, R173). -/
theorem State.SlotLaw.sending (hs : s.SlotLaw) (slot : t.mgmt.slot = s.mgmt.slot) (block : t.block = s.block)
    (reply : t.out.replySlot = s.out.replySlot) (heads : t.heads = s.heads)
    (sent : ∀ p ∈ t.out.tx, ∀ r ∈ p.frame.replyOf, s.out.replySlot = some r) : t.SlotLaw := by
  obtain ⟨-, taken, load, unload, hold⟩ := hs
  refine ⟨by rwa [reply], by rwa [slot, reply], by rwa [block, slot, reply], by rwa [block, slot, reply], fun h => ?_⟩
  rw [State.head_of_heads h heads, slot, reply]
  exact hold h

theorem State.SlotLaw.replySent (hs : s.SlotLaw) : (replySentEffect s).SlotLaw := by
  have gone {r : Reply} (hr : s.out.replySlot = some r) : s.replyGone.SlotLaw := by
    obtain ⟨-, -, load, unload, hold⟩ := hs
    refine ⟨fun p hp => ?_, fun x hx => ?_, fun h => ?_, fun h => ?_, fun h ho => ?_⟩
    · simp [State.replyGone] at hp
    · simp [State.replyGone] at hx
    · have := (load h).2; simp [hr] at this
    · have := (unload h).2; simp [hr] at this
    · have := (hold h ho).2.1; simp [hr] at this
  rw [replySentEffect]
  split
  · next r fresh htx =>
    have hr : s.out.replySlot = some r := hs.1 _ htx r rfl
    split
    · refine hs.sending (by simp) (by simp) (by simp [State.place]) (by simp) fun p hp x hx => ?_
      obtain rfl := Option.mem_some.mp hp
      exact hr.trans hx
    · exact gone hr
  · next r fresh htx => exact gone (hs.1 _ htx r rfl)
  all_goals exact hs

theorem State.SlotLaw.doneSent (hs : s.SlotLaw) : (doneSentEffect s).SlotLaw := by
  have free : s.freeLine.SlotLaw := hs.sending (by simp [State.freeLine]) (by simp [State.freeLine])
    (by simp [State.freeLine]) (by simp [State.freeLine]) (by simp [State.freeLine])
  rw [doneSentEffect]
  split
  · split
    · next n rest _ =>
      split
      · have freed : (s.withOut { s.out with tx := none, notices := rest }).SlotLaw :=
          hs.sending (by simp) (by simp) (by simp) (by simp) (by simp)
        exact (Plain.raiseOccasion _ _).law freed
      · exact free
    · exact free
  all_goals exact hs

theorem State.SlotLaw.eventSent (hs : s.SlotLaw) : (eventSentEffect s).SlotLaw := by
  rw [eventSentEffect]
  split
  · exact hs.sending (by simp) (by simp) (by simp) (by simp) (by simp)
  all_goals exact hs

/-- The outputs that follow a command place at most the REPLY that stands in the reply slot (R173). -/
theorem State.SlotLaw.settle (hs : s.SlotLaw) : (Machine.settle s).SlotLaw := by
  have same : s.driveLineHold.startDrive.out = s.out := by simp
  refine hs.sending (by simp) (by simp) (by simp) (by simp) fun p hp r hr => ?_
  rw [settle_eq, State.arbitrate, same] at hp
  split at hp
  · exact hs.1 p (same ▸ hp) r hr
  · split at hp
    · cases hp; cases hr
    · split at hp
      · next x hx => cases hp; exact hx.trans hr
      · split at hp
        · cases hp; cases hr
        · split at hp
          · cases hp; cases hr
          · exact hs.1 p (same ▸ hp) r hr

/-! #### Every command and every step -/

/-- Every effect of a running part keeps the slot's law. -/
theorem State.SlotLaw.effectOf (hs : s.SlotLaw) (c : Instr) (low : c ≠ .resetPinLow) (power : c ≠ .powerOnReset) :
    (Machine.effectOf c s).SlotLaw := by
  cases c with
  | stroke st => exact (Plain.stroke s st).law hs
  | loadBlock hdr ops => exact hs.manageTo _ hdr ops fun a _ u hu => hu.loadBlock a
  | initialisationVisitEnd => exact hs.initialisationVisitEnd
  | unloadBlock hdr ops => exact hs.manageTo _ hdr ops fun a _ u hu => hu.unloadBlock a
  | unloadVisitEnd => exact hs.unloadVisitEnd
  | writeGrade hdr ops => exact hs.manageTo _ hdr ops fun a _ u hu => hu.quiet (.writeGrade u a)
  | setNotifyWindow hdr ops => exact hs.manageTo _ hdr ops fun a _ u hu => hu.quiet (.setNotifyWindow u a)
  | flushQueue hdr ops => exact hs.manageTo _ hdr ops fun a _ u hu => hu.quiet (.flushQueue u a)
  | setHead hdr ops => exact hs.manageTo _ hdr ops fun a _ u hu => hu.quiet (.setHead u a)
  | setPosition hdr ops => exact hs.manageTo _ hdr ops fun a _ u hu => hu.quiet (.setPosition u a)
  | holdHead hdr ops => exact hs.manageTo _ hdr ops fun a ha u hu => by subst ha; exact hu.holdHead
  | releaseHead hdr ops => exact hs.manageTo _ hdr ops fun a _ u hu => hu.quiet (.releaseHead u a)
  | clearHead hdr ops => exact hs.manageTo _ hdr ops fun a _ u hu => hu.quiet (.clearHead u a)
  | setMonitor hdr ops => exact hs.manageTo _ hdr ops fun a _ u hu => hu.quiet (.setMonitor u a)
  | setTimers hdr ops => exact hs.manageTo _ hdr ops fun a _ u hu => hu.quiet (.setTimers u a)
  | setPreset hdr ops => exact hs.manageTo _ hdr ops fun a _ u hu => hu.quiet (.setPreset u _ a)
  | setSource hdr ops => exact hs.manageTo _ hdr ops fun a _ u hu => hu.quiet (.setSource u _ a)
  | spanWrite hdr ops => exact hs.manageTo _ hdr ops fun a _ u hu => hu.quiet (.spanWrite u _ a)
  | spanQuery hdr ops => exact hs.manageTo _ hdr ops fun a _ u hu => hu.quiet (.spanQuery u a)
  | readCell hdr ops => exact hs.manageTo _ hdr ops fun a _ u hu => hu.quiet (.readCell u a)
  | setEvents hdr ops => exact hs.manageTo _ hdr ops fun a _ u hu => hu.setEvents a
  | readStatus hdr ops => exact hs.manageTo _ hdr ops fun a _ u hu => hu.quiet (.readStatus u a)
  | setJobTag hdr ops => exact hs.manageTo _ hdr ops fun a _ u hu => hu.quiet (.setJobTag u a)
  | resetPart hdr ops => exact hs.manageTo _ hdr ops fun a _ u hu => hu.resetPart a
  | badCommand hdr code =>
    exact hs.manageTo _ hdr (.given NoOps.mk) fun _ _ u hu => hu.quiet (.refuse u .badCommand)
  | evaluation h => exact (Plain.evaluation s h).law hs
  | pass => exact (Plain.pass s).law hs
  | driveFrameSent => exact (Plain.driveFrameSent s).law hs
  | status h executing drag cycles ms => exact (Plain.status s h _ _ _ _).law hs
  | complete h issue p => exact (Plain.complete s h issue).law hs
  | halted h issue k stop => exact (Plain.halted s h issue _ stop).law hs
  | driveFault h issue code => exact (Plain.driveFault s h issue code).law hs
  | statusGapExpiry h => exact (Plain.statusGapExpiry s h).law hs
  | overdueExpiry h => exact (Plain.overdueExpiry s h).law hs
  | machineStopAsserted => exact (Plain.machineStopAsserted s).law hs
  | machineStopDeasserted => exact (Plain.machineStopDeasserted s).law hs
  | corruptFrame link check => exact (Plain.endFrame s link _).law hs
  | lengthAbove48 link length => exact (Plain.endFrame s link _).law hs
  | receiveGap link => exact (Plain.endFrame s link _).law hs
  | replySent => exact hs.replySent
  | doneSent => exact hs.doneSent
  | eventSent => exact hs.eventSent
  | resetPinLow => exact absurd rfl low
  | powerOnReset => exact absurd rfl power

/-- RESET low ends an unload visit and idles the transmitters (R186). -/
theorem State.SlotLaw.resetLow (hs : s.SlotLaw) : (resetPinLowEffect s).SlotLaw :=
  ⟨fun p hp => by simp [resetPinLowEffect] at hp, hs.2.1, hs.2.2.1,
    fun hv => by simp [resetPinLowEffect] at hv, hs.2.2.2.2⟩

theorem State.slotLaw_resetValues (s : State) : s.resetValues.SlotLaw := by
  refine ⟨fun p hp => ?_, fun r hr => ?_, fun h => ?_, fun h => ?_, fun h ho => ?_⟩
  · cases hp
  · cases hr
  · cases h
  · cases h
  · have : (State.reset.head h).holdReplyOwed = false := by
      rw [State.head, State.reset, get_eq_getElem_val, Vector.getElem_replicate]; rfl
    exact absurd (this.symm.trans ho) nofun

/-- Every step keeps the slot's law. -/
theorem step_keeps_slotLaw (hs : s.SlotLaw) (ht : step s = .next t) : t.SlotLaw := by
  refine step_keeps (P := State.SlotLaw) (fun _ _ h => h) (fun u more x h => ?_) (fun c u v h hv => ?_) hs ht
  · refine State.SlotLaw.sending (s := u) h (by simp) (by simp) (by simp) (by simp) fun p hp => ?_
    rw [State.hear_out] at hp
    exact h.1 p hp
  · obtain ⟨-, rfl⟩ | ⟨-, rfl⟩ | ⟨-, level, rfl⟩ | ⟨-, low, power, rfl⟩ := exec_cases hv
    · exact h.resetLow
    · exact State.slotLaw_resetValues u
    · exact (Plain.setStop u level).law h
    · exact (h.effectOf c low power).settle

/-! #### The block record (R1) -/

/-- The law of the block record, but for the unload visit. -/
abbrev BlockRecord.Legal (b : BlockRecord) : Prop :=
  (b.state = .noBlock → b = .reset) ∧
    (b.state ≠ .noBlock → inRange 1 256 b.columns = true ∧ inRange 1 192 b.rows = true ∧
      inRange 40 160 b.pitch = true ∧ inRange 1 8 b.layers.length = true ∧
      (∀ l ∈ b.layers, inRange 1 2400 l.thickness = true ∧ inRange 1 15 l.grade = true) ∧
      b.top = stackTop b.layers ∧ b.top ≤ 2400)

/-- The block record that a LOAD_BLOCK writes is legal (R14, R15). -/
theorem loadRecord_legal {ops : LoadBlockOps} (pass : loadPasses ops = true) : (loadRecord ops).Legal := by
  simp only [loadPasses, Bool.and_eq_true, decide_eq_true_eq, List.all_eq_true] at pass
  obtain ⟨⟨⟨⟨⟨columns, rows⟩, pitch⟩, count⟩, layers⟩, top⟩ := pass
  refine ⟨nofun, fun _ => ⟨columns, rows, pitch, ?_, fun l hl => ?_, rfl, ?_⟩⟩
  · simpa [loadRecord] using count
  · obtain ⟨x, hx, rfl⟩ := List.mem_map.mp hl
    exact layers x hx
  · simpa [loadRecord, stackTop, Function.comp_def] using top

theorem BlockMove.legal (b : BlockMove s t) (hs : s.block.Legal) : t.block.Legal := by
  have legal : BlockRecord.reset.Legal := ⟨fun _ => rfl, fun h => absurd rfl h⟩
  cases b with
  | begun ops pass => exact loadRecord_legal pass
  | initialised state => exact ⟨nofun, fun _ => hs.2 (by simp [state])⟩
  | unloading state => exact ⟨fun h => absurd h state, fun _ => hs.2 state⟩
  | unloaded => exact legal
  | resetLow => exact ⟨fun h => by simp [resetPinLowEffect, hs.1 h, BlockRecord.reset], hs.2⟩
  | reset block => rw [block]; exact legal

/-- An unload visit runs only in LOADED: in INITIALISING the slot holds the LOAD_BLOCK (R16, R20). -/
theorem State.blockLaw_of_legal (legal : s.block.Legal) (slot : s.SlotLaw) : s.BlockLaw := by
  refine ⟨legal.1, legal.2, fun visit => ?_⟩
  obtain ⟨-, -, load, unload, -⟩ := slot
  cases h : s.block.state with
  | noBlock => rw [legal.1 h] at visit; cases visit
  | initialising => have := (unload visit).1; simp [holdsUnload_load (load h).1] at this
  | loaded => rfl

end

/-- Settles O54: every command keeps the law of the slot, a taken MANAGE command finding nothing that waits. -/
theorem stepKeepsSlotAndBlock : Obligations.StepKeepsSlotAndBlock := by
  intro s t hslot hblock hflight ht
  have slot := step_keeps_slotLaw hslot ht
  have legal : t.block.Legal := (step_reaches ht).keeps (P := fun s => s.block.Legal)
    (fun _ _ m hs => m.block ▸ hs) (fun _ _ b hs => b.legal hs) ⟨hblock.1, hblock.2.1⟩
  exact ⟨slot, State.blockLaw_of_legal legal slot, step_keeps_flightLaw hflight ht⟩

end Sys2Proof.Machine

/-! ### Wait list, done slots, pending slots, counters and outputs (R50, R52, R88, R120, R165 to R173, R186) -/

namespace Sys2Proof.Machine

/-! #### The wait list (R50, R52) -/

section
variable {s t : State}

/-- A waiting head, seen at one record: it admits strokes and has one queued (R52). -/
abbrev HeadRecord.MayWait (hd : HeadRecord) : Prop := hd.state.admits = true ∧ hd.queue ≠ []

theorem RecordMove.mayWait {h : Head} {hd hd' : HeadRecord} (m : RecordMove h hd hd') (hw : hd.MayWait) :
    hd'.MayWait := by
  have state := (HeadState.admits_iff _).mp hw.1
  cases m with
  | accepted q => exact ⟨hw.1, by simp⟩
  | alive => rw [HeadRecord.signOfLife_eq]; exact hw
  | hardened held | released held | enabled held => simp [held] at state
  | _ => exact hw

/-- The wait list without a head keeps its law whatever becomes of that head (R52). -/
theorem State.WaitLaw.without {u : State} {h : Head} {f : HeadRecord → HeadRecord} (hs : s.WaitLaw)
    (waitList : u.waitList = s.waitsWithout h) (heads : u.heads = s.heads) : (u.modHead h f).WaitLaw := by
  obtain ⟨once, may⟩ := hs
  rw [State.WaitLaw, State.modHead_waitList, waitList]
  refine ⟨(List.Sublist.map _ List.filter_sublist).nodup once, fun e he => ?_⟩
  obtain ⟨he, other⟩ := List.mem_filter.mp he
  rw [State.head_modHead, if_neg (bne_iff_ne.mp other), State.head_of_heads _ heads]
  exact may e he

/-- The wait list as it was, with a record that still may wait. -/
theorem State.WaitLaw.modHead {u : State} {h : Head} {f : HeadRecord → HeadRecord} (hs : s.WaitLaw)
    (waitList : u.waitList = s.waitList) (heads : u.heads = s.heads)
    (keeps : (s.head h).MayWait → (f (s.head h)).MayWait) : (u.modHead h f).WaitLaw := by
  obtain ⟨once, may⟩ := hs
  rw [State.WaitLaw, State.modHead_waitList, waitList]
  refine ⟨once, fun e he => ?_⟩
  rw [State.head_modHead, State.head_of_heads _ heads]
  split
  · next eq => rw [eq]; exact keeps (eq ▸ may e he)
  · exact may e he

/-- A recorded wait stands once, in its old place or at the back (R51). -/
theorem State.WaitLaw.recordWait {h : Head} {fp : List CellRef} (hs : s.WaitLaw) (may : (s.head h).MayWait) :
    (s.recordWait h fp).WaitLaw := by
  obtain ⟨once, all⟩ := hs
  rw [State.recordWait]
  split
  · have sameHeads : (s.waitList.map fun e => if e.head = h then { e with footprint := fp } else e).map WaitEntry.head =
        s.waitList.map WaitEntry.head := by
      rw [List.map_map]
      refine List.map_congr_left fun e _ => ?_
      simp only [Function.comp]
      split <;> rfl
    refine ⟨by rw [State.withWaitList_waitList, sameHeads]; exact once, fun e he => ?_⟩
    have : e.head ∈ s.waitList.map WaitEntry.head := sameHeads ▸ List.mem_map_of_mem he
    obtain ⟨x, hx, e⟩ := List.mem_map.mp this
    exact e ▸ all x hx
  · next alone =>
    have fresh : h ∉ s.waitList.map WaitEntry.head := fun hm => by
      obtain ⟨x, hx, e⟩ := List.mem_map.mp hm
      exact alone ((s.waits_iff h).mpr ⟨x, hx, e⟩)
    refine ⟨?_, fun e he => ?_⟩
    · rw [State.withWaitList_waitList, List.map_append]
      exact List.nodup_append.mpr ⟨once, nodup_one _, fun x hx y hy e => by
        rw [List.map_singleton, List.mem_singleton] at hy
        exact fresh ((e.trans hy : x = h) ▸ hx)⟩
    · obtain he | he := List.mem_append.mp he
      · exact all e he
      · rw [List.mem_singleton.mp he]; exact may

theorem Move.waitLaw (m : Move s t) (hs : s.WaitLaw) : t.WaitLaw := by
  have reported {hd : HeadRecord} {stop : Point} (hw : hd.MayWait) :
      (hd.reportTaken stop).state.admits = true := by
    show (if _ then _ else _ : HeadState).admits = true
    split
    · rfl
    · exact hw.1
  cases m with
  | aside block cells heads waitList =>
    rw [State.WaitLaw, waitList]
    exact ⟨hs.1, fun e he => by rw [State.head_of_heads _ heads]; exact hs.2 e he⟩
  | record h move => exact hs.modHead (f := fun _ => _) rfl rfl move.mayWait
  | halting h => rw [State.requestHalt_eq]; exact hs.modHead (by simp) (by simp) fun hw => hw
  | waiting h fp admits queued => exact hs.recordWait ⟨admits, queued⟩
  | flushed h => rw [State.flush_eq]; exact hs.without (by simp) (by simp)
  | held h => rw [State.enterHeld_eq]; exact hs.without (by simp) (by simp)
  | off h => rw [State.enterOff_eq]; exact hs.without (by simp) (by simp)
  | refused h => rw [State.refuseStroke_eq]; exact hs.without (by simp) (by simp)
  | issued h q rest rating fp front =>
    rw [State.issueStroke_eq _ _ _ _ _ (by simp [front])]
    exact hs.without (by simp) (by simp)
  | completed h r =>
    rw [State.takeComplete_eq]
    exact hs.modHead (by simp) (by simp) fun hw => ⟨reported (stop := r.stroke.finish) hw, hw.2⟩
  | stopped h r k stop =>
    rw [State.takeHalted_eq]
    exact hs.modHead (by simp) (by simp) fun hw => ⟨reported (stop := stop) hw, hw.2⟩
  | @faulted h hd cause issue code state ailing =>
    have before : (s.setHead h hd).WaitLaw := by
      refine hs.modHead (f := fun _ => hd) rfl rfl fun hw => ?_
      obtain ⟨gap, overdue, m, l⟩ := ailing
      exact hw
    rw [State.enterFault_eq]
    exact before.without (by simp) (by simp)
  | cleared h p state =>
    rw [State.resolveAll_restore_eq]
    exact hs.modHead (by simp) (by simp) fun hw => by have := hw.1; rw [state] at this; cases this
  | programmed field r refs => exact hs

theorem BlockMove.waitLaw (b : BlockMove s t) (hs : s.WaitLaw) : t.WaitLaw := by
  cases b with
  | begun | initialised | unloading | unloaded | resetLow => exact hs
  | reset block cells heads waitList =>
    rw [State.WaitLaw, waitList]
    exact ⟨List.nodup_nil, fun e he => absurd he List.not_mem_nil⟩

/-! #### The done slots (R168) -/

/-- A change of one record moves the slots in use by its reservations. -/
theorem State.slotsInUse_modHead {u : State} {h : Head} {f : HeadRecord → HeadRecord} (heads : u.heads = s.heads) :
    (u.modHead h f).slotsInUse + (s.head h).reservations + s.out.notices.length =
      s.slotsInUse + (f (s.head h)).reservations + u.out.notices.length := by
  have sum (v : State) : v.slotsInUse = (v.head 0).reservations + (v.head 1).reservations + (v.head 2).reservations +
      (v.head 3).reservations + v.out.notices.length := by
    rw [State.slotsInUse, State.heads_toList]
    simp [Nat.add_assoc]
  rw [sum, sum]
  simp only [State.head_modHead, State.head_of_heads _ heads, State.modHead_out]
  match h with
  | 0 | 1 | 2 | 3 => simp; omega

theorem State.slotsInUse_same (heads : t.heads = s.heads) (notices : t.out.notices.length ≤ s.out.notices.length) :
    t.slotsInUse ≤ s.slotsInUse := by
  rw [State.slotsInUse, State.slotsInUse, heads]
  omega

/-- A change of one record that leaves its reservations. -/
theorem State.SlotsLaw.modHead {u : State} {h : Head} {f : HeadRecord → HeadRecord} (hs : s.SlotsLaw)
    (heads : u.heads = s.heads)
    (slots : (f (s.head h)).reservations + u.out.notices.length ≤ (s.head h).reservations + s.out.notices.length) :
    (u.modHead h f).SlotsLaw := by
  have := State.slotsInUse_modHead (h := h) (f := f) heads
  simp only [State.SlotsLaw] at hs ⊢
  omega

/-- The reservations of a list of records (R168). -/
def reserved (l : List InFlight) : Nat := l.countP InFlight.reserved

theorem HeadRecord.reservations_eq (hd : HeadRecord) : hd.reservations = reserved hd.inFlight := rfl

theorem reserved_cons (r : InFlight) (l : List InFlight) :
    reserved (r :: l) = reserved l + (r.notices .complete none).length := by
  rw [reserved, List.countP_cons, InFlight.notices]
  cases r.reserved <;> rfl

theorem InFlight.notices_length (r : InFlight) (o o' : StrokeOutcome) (k k' : Option Nat) :
    (r.notices o k).length = (r.notices o' k').length := by
  rw [InFlight.notices, InFlight.notices]
  split <;> rfl

theorem HeadRecord.Seen.reserved {hd : HeadRecord} {l : List InFlight} (seen : hd.Seen l) :
    Machine.reserved l = Machine.reserved hd.inFlight := by
  obtain rfl | rfl := seen
  · rfl
  · rw [HeadRecord.markSawHigh]
    split
    · rfl
    · next e => rw [e, reserved_cons, reserved_cons]; rfl

theorem HeadRecord.listAfter_reserved (hd : HeadRecord) : reserved hd.listAfter = reserved hd.inFlight.tail := by
  rw [HeadRecord.listAfter]
  split
  · next e => rw [e]
  · next e => rw [e, reserved_cons, reserved_cons]; rfl

theorem RecordMove.reserved {h : Head} {hd hd' : HeadRecord} (m : RecordMove h hd hd') :
    hd'.reservations = hd.reservations := by
  cases m with
  | alive => rw [HeadRecord.signOfLife_eq]; rfl
  | monitored m l within seen => exact seen.reserved
  | _ => rfl

/-- A reported record's reservation becomes its notice (R96). -/
theorem State.SlotsLaw.reported {u : State} {h : Head} {f : HeadRecord → HeadRecord} {r : InFlight}
    {o : StrokeOutcome} {k : Option Nat} (hs : s.SlotsLaw) (heads : u.heads = s.heads)
    (oldest : (s.head h).inFlight.head? = some r) (notices : u.out.notices = s.out.notices ++ r.notices o k)
    (list : (f (s.head h)).inFlight = (s.head h).listAfter) : (u.modHead h f).SlotsLaw := by
  refine hs.modHead heads ?_
  rw [notices, HeadRecord.reservations_eq, HeadRecord.reservations_eq, list, HeadRecord.listAfter_reserved,
    eq_cons_of_head? oldest, reserved_cons, List.length_append, r.notices_length o .complete k none]
  simp only [List.tail_cons]
  omega

theorem Move.slotsLaw (m : Move s t) (hs : s.SlotsLaw) : t.SlotsLaw := by
  cases m with
  | aside block cells heads waitList queue notices => exact Nat.le_trans (State.slotsInUse_same heads notices) hs
  | record h move => exact hs.modHead (f := fun _ => _) rfl (Nat.le_of_eq (by rw [move.reserved]))
  | halting h => rw [State.requestHalt_eq]; exact hs.modHead (by simp) (by simp [HeadRecord.halting, HeadRecord.reservations])
  | waiting h fp => exact Nat.le_trans (State.slotsInUse_same (by simp) (by simp)) hs
  | flushed h => rw [State.flush_eq]; exact hs.modHead (by simp) (by simp [HeadRecord.reservations])
  | held h => rw [State.enterHeld_eq]; exact hs.modHead (by simp) (by simp [HeadRecord.reservations])
  | off h => rw [State.enterOff_eq]; exact hs.modHead (by simp) (by simp [HeadRecord.reservations])
  | refused h =>
    rw [State.refuseStroke_eq]
    exact hs.modHead (by simp) (by simp [State.raise, HeadRecord.strokeRefused, HeadRecord.reservations])
  | issued h q rest rating fp front verdict =>
    have slot := (State.verdict_issue verdict).slot
    rw [State.issueStroke_eq _ _ _ _ _ (by simp [front])]
    have moved := State.slotsInUse_modHead (u := s.issuedAround h q rating fp) (h := h)
      (f := HeadRecord.strokeIssued q (buildRecord s h q rating)) (s := s) (by simp)
    have notices : (s.issuedAround h q rating fp).out.notices = s.out.notices := by
      simp only [State.withOccasions_out, State.withDrive_out, State.withWaitList_out, State.withCells_out,
        State.withOut_out]
      split
      · exact Outbound.raise_notices ..
      · rfl
    have joined : ((s.head h).strokeIssued q (buildRecord s h q rating)).reservations =
        (s.head h).reservations + if q.notify = true then 1 else 0 := by
      rw [HeadRecord.reservations_eq, HeadRecord.strokeIssued, reserved, List.countP_append]
      congr 1
      split <;> simp [buildRecord, List.countP_cons]
    rw [joined, notices] at moved
    simp only [State.SlotsLaw] at hs ⊢
    split at moved
    · next hn => have := slot hn; omega
    · omega
  | completed h r oldest =>
    rw [State.takeComplete_eq]
    refine hs.reported (o := .complete) (k := none) (by simp) oldest ?_ rfl
    simp only [State.withOut_out]
    split
    · exact Outbound.raise_notices ..
    · rfl
  | stopped h r k stop oldest =>
    rw [State.takeHalted_eq]
    exact hs.reported (o := .halted) (k := some k) (by simp) oldest (by simp) rfl
  | @faulted h hd cause issue code state ailing =>
    have same : hd.reservations = (s.head h).reservations := by
      obtain ⟨gap, overdue, m, l, -, -, -, -, -, seen⟩ := ailing
      exact seen.reserved
    have before : (s.setHead h hd).SlotsLaw := hs.modHead (f := fun _ => hd) rfl (Nat.le_of_eq (by rw [same]))
    rw [State.enterFault_eq]
    exact before.modHead (by simp) (by simp [State.raise, HeadRecord.faulted, HeadRecord.reservations])
  | cleared h p =>
    have all (l : List InFlight) :
        (l.flatMap fun r => r.notices .unresolved (some r.resolvedCells)).length = reserved l := by
      induction l with
      | nil => rfl
      | cons r l ih =>
        rw [List.flatMap_cons, List.length_append, ih, reserved_cons,
          r.notices_length .unresolved .complete _ none, Nat.add_comm]
    rw [State.resolveAll_restore_eq]
    refine hs.modHead (by simp) ?_
    simp only [State.withDrive_out, State.withOut_out, List.length_append, all, HeadRecord.reservations_eq]
    have : reserved (HeadRecord.cleared p (s.head h)).inFlight = 0 := rfl
    omega
  | programmed field r refs => exact hs

theorem BlockMove.slotsLaw (b : BlockMove s t) (hs : s.SlotsLaw) : t.SlotsLaw := by
  cases b with
  | begun | initialised | unloading | unloaded | resetLow => exact hs
  | reset block cells heads waitList occasions queue notices =>
    rw [State.SlotsLaw, State.slotsInUse, heads, notices]
    decide

end

end Sys2Proof.Machine

/-! ### Pending slots, counters, receivers and idle outputs (R88, R120, R165 to R173, R186) -/

namespace Sys2Proof.Machine

/-! #### The event pending set (R170, R171) -/

/-- A pending slot's counts, and its late record only while it is being sent (R170, R171). -/
abbrev EventSlot.Counted (e : EventSlot) : Prop :=
  inRange 1 255 e.first.count = true ∧ (∀ o ∈ e.late, inRange 1 255 o.count = true) ∧
    (e.late.isSome → e.sending = true)

/-- The pending slots are of enabled classes, each class once, and counted. -/
structure Outbound.Lawful (o : Outbound) : Prop where
  once : (o.events.map EventSlot.cls).Nodup
  enabled : ∀ e ∈ o.events, enabledIn o.enables e.cls = true
  counted : ∀ e ∈ o.events, e.Counted

theorem State.eventsLaw_iff {s : State} : s.EventsLaw ↔ s.out.Lawful := by
  constructor
  · rintro ⟨once, all⟩
    exact ⟨once, fun e he => (all e he).1, fun e he => (all e he).2⟩
  · rintro ⟨once, enabled, counted⟩
    exact ⟨once, fun e he => ⟨enabled e he, counted e he⟩⟩

theorem EventSlot.Counted.new (cls : EventClass) {o : Occurrence} (ho : inRange 1 255 o.count = true) :
    EventSlot.Counted ⟨cls, o, false, none⟩ := ⟨ho, nofun, nofun⟩

theorem Occurrence.again_inRange (o : Occurrence) : inRange 1 255 o.again.count = true := by
  show inRange 1 255 (min 255 (o.count + 1)) = true
  simp only [inRange, Bool.and_eq_true, decide_eq_true_eq]
  omega

theorem EventSlot.Counted.record {e : EventSlot} (he : e.Counted) (d : Details) : (e.record d).Counted := by
  obtain ⟨first, late, sent⟩ := he
  rw [EventSlot.record]
  split
  · next sending =>
    refine ⟨first, fun o ho => ?_, fun _ => sending⟩
    obtain rfl := Option.mem_some.mp ho
    split
    · rfl
    · exact Occurrence.again_inRange _
  · exact ⟨Occurrence.again_inRange _, late, sent⟩

@[simp] theorem EventSlot.record_cls (e : EventSlot) (d : Details) : (e.record d).cls = e.cls := by
  rw [EventSlot.record]
  split <;> rfl

/-- A slot that is being sent keeps its record (R171). -/
theorem EventSlot.record_sending (e : EventSlot) (d : Details) :
    (e.record d).sending = e.sending ∧ (e.sending = true → (e.record d).first = e.first) := by
  rw [EventSlot.record]
  split
  · exact ⟨rfl, fun _ => rfl⟩
  · next idle => exact ⟨rfl, fun sending => absurd sending idle⟩

section
variable {o o' : Outbound}

/-- A slot changed in place keeps its class. -/
theorem map_cls_ite {p : EventSlot → Bool} {f : EventSlot → EventSlot} (hf : ∀ e, (f e).cls = e.cls)
    (l : List EventSlot) : (l.map fun e => if p e then f e else e).map EventSlot.cls = l.map EventSlot.cls := by
  rw [List.map_map]
  refine List.map_congr_left fun e _ => ?_
  simp only [Function.comp]
  split
  · exact hf e
  · rfl

/-- Slots changed in place, each kept counted, keep the law. -/
theorem Outbound.Lawful.mapped {p : EventSlot → Bool} {f : EventSlot → EventSlot} (ho : o.Lawful)
    (hf : ∀ e, (f e).cls = e.cls) (counted : ∀ e, e.Counted → (f e).Counted)
    (events : o'.events = o.events.map fun e => if p e then f e else e) (enables : o'.enables = o.enables) :
    o'.Lawful := by
  have old {e : EventSlot} (he : e ∈ o'.events) : ∃ x ∈ o.events, (if p x then f x else x) = e := by
    rw [events] at he
    exact List.mem_map.mp he
  refine ⟨?_, fun e he => ?_, fun e he => ?_⟩
  · rw [events, map_cls_ite hf]
    exact ho.once
  · obtain ⟨x, hx, rfl⟩ := old he
    rw [enables]
    split
    · rw [hf]; exact ho.enabled x hx
    · exact ho.enabled x hx
  · obtain ⟨x, hx, rfl⟩ := old he
    split
    · exact counted x (ho.counted x hx)
    · exact ho.counted x hx

/-- Some of the slots, with slots of one class at the end of which none is left among them. -/
theorem Outbound.Lawful.appended {cls : EventClass} {x : EventSlot} {l : List EventSlot} (ho : o.Lawful)
    (sub : l.Sublist o.events) (fresh : ∀ e ∈ l, e.cls ≠ cls) (hx : x.cls = cls)
    (enabled : enabledIn o.enables cls = true) (counted : x.Counted) (events : o'.events = l ++ [x])
    (enables : o'.enables = o.enables) : o'.Lawful := by
  refine ⟨?_, fun e he => ?_, fun e he => ?_⟩
  · rw [events, List.map_append]
    refine List.nodup_append.mpr ⟨(sub.map _).nodup ho.once, nodup_one _, fun a ha b hb e => ?_⟩
    obtain ⟨y, hy, rfl⟩ := List.mem_map.mp ha
    rw [List.map_singleton, List.mem_singleton] at hb
    exact fresh y hy (e.trans (hb.trans hx))
  all_goals
    rw [events] at he
    obtain he | he := List.mem_append.mp he
  · rw [enables]; exact ho.enabled e (sub.subset he)
  · rw [enables, List.mem_singleton.mp he, hx]; exact enabled
  · exact ho.counted e (sub.subset he)
  · rw [List.mem_singleton.mp he]; exact counted

/-- Some of the slots. -/
theorem Outbound.Lawful.sublist (ho : o.Lawful) (sub : o'.events.Sublist o.events)
    (enabled : ∀ e ∈ o'.events, enabledIn o'.enables e.cls = true) : o'.Lawful :=
  ⟨(sub.map _).nodup ho.once, enabled, fun e he => ho.counted e (sub.subset he)⟩

theorem isPending_eq_false {events : List EventSlot} {cls : EventClass} (h : ¬ isPending events cls = true) :
    ∀ e ∈ events, e.cls ≠ cls := fun e he eq =>
  h (List.any_eq_true.mpr ⟨e, he, beq_iff_eq.mpr eq⟩)

theorem OutStep.lawful (step : OutStep o o') (ho : o.Lawful) : o'.Lawful := by
  cases step with
  | replied | noticed => exact ⟨ho.once, ho.enabled, ho.counted⟩
  | raised cls d =>
    rw [Outbound.raise]
    split
    · exact ho
    · next enabled =>
      split
      · exact ho.mapped (fun e => e.record_cls d) (fun e he => he.record d) rfl rfl
      · next fresh =>
        exact ho.appended (List.Sublist.refl _) (isPending_eq_false fresh) rfl (by simpa using enabled)
          (EventSlot.Counted.new cls rfl) rfl rfl

theorem OutSteps.lawful (steps : OutSteps o o') (ho : o.Lawful) : o'.Lawful := by
  induction steps with
  | refl => exact ho
  | tail _ step ih => exact step.lawful ih

/-! #### The slot that is being sent (R171) -/

/-- A slot is being sent only while its EVENT frame is on the line transmitter. -/
abbrev Outbound.Sending (o : Outbound) : Prop :=
  ∀ e ∈ o.events, e.sending = true → (o.tx.bind fun p => p.frame.eventOf) = some (e.cls, e.first)

theorem OutStep.sending (step : OutStep o o') (ho : o.Sending) : o'.Sending := by
  cases step with
  | replied | noticed => exact ho
  | raised cls d =>
    rw [Outbound.Sending, Outbound.raise_tx, Outbound.raise]
    split
    · exact ho
    · split
      · intro e he hs
        obtain ⟨x, hx, rfl⟩ := List.mem_map.mp he
        by_cases hc : (x.cls == cls) = true
        · rw [if_pos hc] at hs ⊢
          obtain ⟨sending, first⟩ := x.record_sending d
          rw [sending] at hs
          rw [EventSlot.record_cls, first hs]
          exact ho x hx hs
        · rw [if_neg hc] at hs ⊢
          exact ho x hx hs
      · intro e he hs
        obtain he | he := List.mem_append.mp he
        · exact ho e he hs
        · rw [List.mem_singleton.mp he] at hs
          cases hs

theorem OutSteps.sending (steps : OutSteps o o') (ho : o.Sending) : o'.Sending := by
  induction steps with
  | refl => exact ho
  | tail _ step ih => exact step.sending ih

/-- With no EVENT frame on the line transmitter no slot is being sent. -/
theorem Outbound.Sending.none (ho : o.Sending) (h : (o.tx.bind fun p => p.frame.eventOf) = Option.none) :
    ∀ e ∈ o.events, e.sending = false := fun e he =>
  Bool.eq_false_iff.mpr fun hs => by rw [ho e he hs] at h; cases h

end

/-! #### The effects of the commands -/

/-- A law that the links' acts keep is kept by every effect, when those that end a frame, discard pending slots or
reset the part keep it too. -/
theorem effectOf_keeps {P : State → Prop} (outward : ∀ u t, Outward u t → P u → P t)
    (setEvents : ∀ u ops, P u → P (setEventsEffect ops u)) (resetPart : ∀ u ops, P u → P (resetPartEffect ops u))
    (replySent : ∀ u, P u → P (replySentEffect u)) (doneSent : ∀ u, P u → P (doneSentEffect u))
    (eventSent : ∀ u, P u → P (eventSentEffect u)) {s : State} {c : Instr} (low : c ≠ .resetPinLow)
    (power : c ≠ .powerOnReset) (hs : P s) : P (effectOf c s) := by
  have plain {t : State} (p : Plain s t) : P t := outward s t p.toOutward hs
  have managed {α : Type} (c : Instr) (hdr : Header) (ops : Operands α) {f : α → State → State}
      (hf : ∀ a u, P u → P (f a u)) : P (manageTo c hdr ops f s) := by
    rw [manageTo]
    split
    · exact plain (.raise s _ _)
    · have taken : P (s.withMgmt { s.mgmt with slot := some c }) := outward s _ (.of_eq (by simp) (by simp) (by simp)) hs
      cases ops with
      | wrongLength => exact outward _ _ (Quiet.refuse _ _).toOutward taken
      | given a => exact hf a _ taken
  have quiet {u t : State} (q : Quiet u t) (hu : P u) : P t := outward u t q.toOutward hu
  cases c with
  | stroke st => exact plain (.stroke s st)
  | loadBlock hdr ops =>
    refine managed _ hdr ops fun a u hu => ?_
    rw [loadBlockEffect]
    split
    · exact quiet (.refuse u _) hu
    · split
      · exact quiet (.refuse u _) hu
      · refine outward _ _ (.of_eq ?_ ?_ ?_) (quiet (.flushAll u) hu) <;> simp [State.beginBlock]
  | initialisationVisitEnd =>
    show P (initialisationVisitEndEffect s)
    rw [initialisationVisitEndEffect]
    split
    · exact quiet (.thenAnswer (.raiseOccasion _ _) _ _)
        (outward s (s.withBlock { s.block with state := .loaded }) (.of_eq (by simp) (by simp) (by simp)) hs)
    all_goals exact hs
  | unloadBlock hdr ops =>
    refine managed _ hdr ops fun a u hu => ?_
    have visit : P (u.flushAll.withBlock { u.block with unloadVisit := true }) :=
      outward _ _ (.of_eq (by simp) (by simp) (by simp)) (quiet (.flushAll u) hu)
    rw [unloadBlockEffect]
    split
    · exact quiet (.refuse u _) hu
    all_goals
      split
      · exact quiet (.refuse u _) hu
      · exact visit
  | unloadVisitEnd =>
    show P (unloadVisitEndEffect s)
    rw [unloadVisitEndEffect]
    split
    · exact quiet (.answer _ _ _) (outward s ((s.withBlock .reset).withCells []) (.of_eq (by simp) (by simp) (by simp)) hs)
    · exact hs
  | writeGrade hdr ops => exact managed _ hdr ops fun a u hu => quiet (.writeGrade u a) hu
  | setNotifyWindow hdr ops => exact managed _ hdr ops fun a u hu => quiet (.setNotifyWindow u a) hu
  | flushQueue hdr ops => exact managed _ hdr ops fun a u hu => quiet (.flushQueue u a) hu
  | setHead hdr ops => exact managed _ hdr ops fun a u hu => quiet (.setHead u a) hu
  | setPosition hdr ops => exact managed _ hdr ops fun a u hu => quiet (.setPosition u a) hu
  | holdHead hdr ops =>
    refine managed _ hdr ops fun a u hu => ?_
    have held : P ((u.hold a.head a.hard).oweHold a.head) := by
      rw [State.oweHold]
      split
      · exact quiet ((Quiet.hold u a.head a.hard).thenAnswer _ _) hu
      · exact outward _ _ (.of_eq (by simp) (by simp) (by simp)) (quiet (.hold u a.head a.hard) hu)
    rw [holdHeadEffect]
    split
    · exact quiet (.refuse u _) hu
    · exact quiet (.refuse u _) hu
    all_goals exact held
  | releaseHead hdr ops => exact managed _ hdr ops fun a u hu => quiet (.releaseHead u a) hu
  | clearHead hdr ops => exact managed _ hdr ops fun a u hu => quiet (.clearHead u a) hu
  | setMonitor hdr ops => exact managed _ hdr ops fun a u hu => quiet (.setMonitor u a) hu
  | setTimers hdr ops => exact managed _ hdr ops fun a u hu => quiet (.setTimers u a) hu
  | setPreset hdr ops => exact managed _ hdr ops fun a u hu => quiet (.setPreset u _ a) hu
  | setSource hdr ops => exact managed _ hdr ops fun a u hu => quiet (.setSource u _ a) hu
  | spanWrite hdr ops => exact managed _ hdr ops fun a u hu => quiet (.spanWrite u _ a) hu
  | spanQuery hdr ops => exact managed _ hdr ops fun a u hu => quiet (.spanQuery u a) hu
  | readCell hdr ops => exact managed _ hdr ops fun a u hu => quiet (.readCell u a) hu
  | setEvents hdr ops => exact managed _ hdr ops fun a u hu => setEvents u a hu
  | readStatus hdr ops => exact managed _ hdr ops fun a u hu => quiet (.readStatus u a) hu
  | setJobTag hdr ops => exact managed _ hdr ops fun a u hu => quiet (.setJobTag u a) hu
  | resetPart hdr ops => exact managed _ hdr ops fun a u hu => resetPart u a hu
  | badCommand hdr code => exact managed _ hdr (.given NoOps.mk) fun _ u hu => quiet (.refuse u .badCommand) hu
  | evaluation h => exact plain (.evaluation s h)
  | pass => exact plain (.pass s)
  | driveFrameSent => exact plain (.driveFrameSent s)
  | status h executing drag cycles ms => exact plain (.status s h _ _ _ _)
  | complete h issue p => exact plain (.complete s h issue)
  | halted h issue k stop => exact plain (.halted s h issue _ stop)
  | driveFault h issue code => exact plain (.driveFault s h issue code)
  | statusGapExpiry h => exact plain (.statusGapExpiry s h)
  | overdueExpiry h => exact plain (.overdueExpiry s h)
  | machineStopAsserted => exact plain (.machineStopAsserted s)
  | machineStopDeasserted => exact plain (.machineStopDeasserted s)
  | corruptFrame link check => exact plain (.endFrame s link _)
  | lengthAbove48 link length => exact plain (.endFrame s link _)
  | receiveGap link => exact plain (.endFrame s link _)
  | replySent => exact replySent s hs
  | doneSent => exact doneSent s hs
  | eventSent => exact eventSent s hs
  | resetPinLow => exact absurd rfl low
  | powerOnReset => exact absurd rfl power

end Sys2Proof.Machine

/-! ### The arbiter, and what it leaves (R88, R120, R165 to R173, R186) -/

namespace Sys2Proof.Machine

/-! #### The frame that the arbiter takes (R173) -/

/-- What the arbiter does when the line transmitter is free, in the order of R173. -/
inductive State.Arbitrated (s : State) : State → Prop
  | fault (e : EventSlot) (first : (s.out.events.find? fun e => e.isHeadFault && !e.sending) = some e) :
    s.Arbitrated (s.placeEvent e)
  | reply (r : Reply) (faults : (s.out.events.find? fun e => e.isHeadFault && !e.sending) = none)
    (slot : s.out.replySlot = some r) : s.Arbitrated (s.place (.reply r))
  | notice (n : QueuedNotice) (rest : List QueuedNotice)
    (faults : (s.out.events.find? fun e => e.isHeadFault && !e.sending) = none) (slot : s.out.replySlot = none)
    (oldest : s.out.notices = n :: rest) : s.Arbitrated (s.placeDone n rest)
  | event (e : EventSlot) (faults : (s.out.events.find? fun e => e.isHeadFault && !e.sending) = none)
    (slot : s.out.replySlot = none) (notices : s.out.notices = [])
    (first : (s.out.events.find? fun e => !e.sending) = some e) : s.Arbitrated (s.placeEvent e)
  | idle (slot : s.out.replySlot = none) (notices : s.out.notices = [])
    (events : (s.out.events.find? fun e => !e.sending) = none) : s.Arbitrated s

theorem State.arbitrate_free {s : State} (free : s.out.tx = none) : ∃ t, s.arbitrate = t ∧ s.Arbitrated t := by
  refine ⟨_, rfl, ?_⟩
  rw [State.arbitrate, if_neg (by simp [free])]
  split
  · next e first => exact .fault e first
  · next faults =>
    split
    · next r slot => exact .reply r faults slot
    · next slot =>
      split
      · next n rest oldest => exact .notice n rest faults slot oldest
      · next notices =>
        split
        · next e first => exact .event e faults slot notices first
        · next events => exact .idle slot notices events

/-- The arbiter looks at the outbound state, the job tag and the count of free values, and at nothing else. -/
theorem State.arbitrate_out_congr {s t : State} (out : t.out = s.out) (mgmt : t.mgmt = s.mgmt)
    (fresh : t.fresh = s.fresh) : t.arbitrate.out = s.arbitrate.out := by
  rw [State.arbitrate, State.arbitrate, out]
  repeat' split
  all_goals simp only [State.placeEvent, State.placeDone, State.place, State.withFresh_out, State.withOut_out,
    State.withOut_fresh, out, mgmt, fresh]

theorem State.startDrive_eq (s : State) : s.startDrive = s.withDrive s.startDrive.drive := by
  simp only [State.startDrive]
  split <;> rfl

/-- What follows a command leaves the outbound state as the arbiter does. -/
theorem settle_out (s : State) : (settle s).out = s.arbitrate.out := by
  rw [settle, State.startDrive_eq]
  exact State.arbitrate_out_congr (by simp) (by simp) (by simp)

@[simp] theorem settle_receivers (s : State) : (settle s).receivers = s.receivers := by simp [settle]
@[simp] theorem settle_arriving (s : State) : (settle s).arriving = s.arriving := by simp [settle]

/-- The arbiter marks slots as being sent, and nothing else (R171). -/
theorem State.arbitrate_events (s : State) : ∃ p : EventSlot → Bool,
    s.arbitrate.out.events = s.out.events.map fun e => if p e then { e with sending := true } else e := by
  have unmarked : s.out.events = s.out.events.map fun e => if false then { e with sending := true } else e := by simp
  cases htx : s.out.tx with
  | some p => exact ⟨fun _ => false, by rw [State.arbitrate_busy _ (by simp [htx])]; exact unmarked⟩
  | none =>
    obtain ⟨t, choice, arbitrated⟩ := s.arbitrate_free htx
    rw [choice]
    cases arbitrated with
    | fault e | event e => exact ⟨fun x => x.cls == e.cls, rfl⟩
    | reply | notice | idle => exact ⟨fun _ => false, unmarked⟩

section
variable {s t : State}

theorem Outbound.Lawful.settle (ho : s.out.Lawful) : (settle s).out.Lawful := by
  obtain ⟨p, events⟩ := s.arbitrate_events
  rw [settle_out]
  refine ho.mapped (f := fun e => { e with sending := true }) (fun _ => rfl) ?_ events s.arbitrate_enables
  exact fun e ⟨first, late, _⟩ => ⟨first, late, fun _ => rfl⟩

/-- A state's frame on the line transmitter and its pending slots agree after the arbiter's choice (R171). -/
theorem Outbound.Sending.settle (lawful : s.out.Lawful) (ho : s.out.Sending) : (settle s).out.Sending := by
  rw [settle_out]
  cases htx : s.out.tx with
  | some p => rw [State.arbitrate_busy _ (by simp [htx])]; exact ho
  | none =>
    have unsent := ho.none (by rw [htx]; rfl)
    have placed (e : EventSlot) (he : e ∈ s.out.events) : (s.placeEvent e).out.Sending := fun x hx hs => by
      obtain ⟨y, hy, rfl⟩ := List.mem_map.mp hx
      split at hs
      · next same =>
        obtain rfl : y = e := eq_of_nodup_map lawful.once hy he (beq_iff_eq.mp same)
        rw [if_pos same]
        rfl
      · rw [unsent y hy] at hs; cases hs
    obtain ⟨t, choice, arbitrated⟩ := s.arbitrate_free htx
    rw [choice]
    cases arbitrated with
    | fault e first => exact placed e (List.mem_of_find?_eq_some first)
    | event e faults slot notices first => exact placed e (List.mem_of_find?_eq_some first)
    | reply | notice => exact fun e he hs => absurd ((unsent e he).symm.trans hs) Bool.false_ne_true
    | idle => exact ho

/-- After the arbiter's choice the line transmitter is idle only with nothing to send (R173). -/
theorem settle_idle (ho : s.out.Sending) (idle : (settle s).out.tx = none) :
    (settle s).out.replySlot = none ∧ (settle s).out.notices = [] ∧ (settle s).out.events = [] := by
  rw [settle_out] at idle ⊢
  cases htx : s.out.tx with
  | some p => rw [State.arbitrate_busy _ (by simp [htx]), htx] at idle; cases idle
  | none =>
    obtain ⟨t, choice, arbitrated⟩ := s.arbitrate_free htx
    rw [choice] at idle ⊢
    cases arbitrated with
    | fault | reply | notice | event => cases idle
    | idle slot notices events =>
      refine ⟨slot, notices, List.eq_nil_iff_forall_not_mem.mpr fun e he => ?_⟩
      have sending := List.find?_eq_none.mp events e he
      rw [ho.none (by rw [htx]; rfl) e he] at sending
      exact sending rfl

/-- After each command the drive transmitter is idle only with no frame waiting (R88). -/
theorem settle_drive_idle (idle : (settle s).drive.tx = none) : (settle s).drive.queue = [] := by
  rw [settle_drive, State.startDrive] at idle ⊢
  split at idle
  · cases idle
  · next queue => exact queue
  · next _ busy => cases busy.symm.trans idle

/-! #### The ends of the frames (R154, R169, R171) -/

/-- The end of a REPLY frame leaves the pending slots and the class enables. -/
theorem replySentEffect_events (u : State) :
    (replySentEffect u).out.events = u.out.events ∧ (replySentEffect u).out.enables = u.out.enables := by
  rw [replySentEffect]
  split
  · split <;> exact ⟨rfl, rfl⟩
  all_goals exact ⟨rfl, rfl⟩

/-- The end of a DONE frame leaves the pending slots and the class enables. -/
theorem doneSentEffect_out (u : State) : (doneSentEffect u).out.events = u.out.events ∧
    (doneSentEffect u).out.enables = u.out.enables := by
  rw [doneSentEffect]
  split
  · split
    · split
      · rw [State.raiseOccasion_eq]; exact ⟨rfl, rfl⟩
      · exact ⟨rfl, rfl⟩
    · exact ⟨rfl, rfl⟩
  all_goals exact ⟨rfl, rfl⟩

/-- The end of an EVENT frame: its slot is gone, or holds its late record (R171). -/
theorem Outbound.Lawful.finishEvent {o o' : Outbound} {cls : EventClass} (ho : o.Lawful)
    (events : o'.events = finishEvent cls o.events) (enables : o'.enables = o.enables) : o'.Lawful := by
  have sub : (o.events.filter fun e => !(e.cls == cls && e.sending)).Sublist o.events := List.filter_sublist
  rw [Machine.finishEvent] at events
  split at events
  · exact ho.sublist (events ▸ List.Sublist.refl _) (by rw [events, enables]; exact ho.enabled)
  · next e found =>
    have he := List.mem_of_find?_eq_some found
    have here : e.cls = cls ∧ e.sending = true := by simpa using List.find?_some found
    split at events
    · refine ho.sublist (by rw [events]; exact sub) fun x hx => ?_
      rw [enables]
      exact ho.enabled x (sub.subset (events ▸ hx))
    · next o late =>
      refine ho.appended sub ?_ rfl (here.1 ▸ ho.enabled e he) (EventSlot.Counted.new cls ?_) events enables
      · intro x hx same
        obtain ⟨hx, kept⟩ := List.mem_filter.mp hx
        obtain rfl : x = e := eq_of_nodup_map ho.once hx he (same.trans here.1.symm)
        simp [here] at kept
      · obtain ⟨-, counted, -⟩ := ho.counted e he
        exact counted o late

end

end Sys2Proof.Machine

/-! ### The laws of the lists, the counters and the outputs (R50, R52, R88, R120, R165 to R173, R186) -/

namespace Sys2Proof.Machine

variable {s t : State}

/-! #### What the acts on the outbound state keep -/

/-- The pending slots are lawful and agree with the frame on the line transmitter. -/
abbrev Outbound.Sound (o : Outbound) : Prop := o.Lawful ∧ o.Sending

theorem Outbound.Lawful.same {o o' : Outbound} (ho : o.Lawful) (events : o'.events = o.events)
    (enables : o'.enables = o.enables) : o'.Lawful :=
  ho.sublist (events ▸ List.Sublist.refl _) (by rw [events, enables]; exact ho.enabled)

/-- With no slot being sent there is nothing to agree with the line transmitter (R171). -/
theorem Outbound.Sending.unsent {o : Outbound} (h : ∀ e ∈ o.events, e.sending = false) : o.Sending :=
  fun e he hs => absurd ((h e he).symm.trans hs) Bool.false_ne_true

/-- The outbound state of a part at its reset values has no pending slot. -/
theorem resetPartEffect_events (u : State) (ops : NoOps) :
    Outward u (resetPartEffect ops u) ∨ (resetPartEffect ops u).out.events = [] := by
  rw [resetPartEffect]
  split
  · exact .inl (Quiet.refuse u _).toOutward
  · exact .inr (by rw [State.answer_events]; rfl)

theorem Outbound.Sending.replySent (ho : s.out.Sending) : (replySentEffect s).out.Sending := by
  have sent {p : PlacedFrame} (htx : s.out.tx = some p) (reply : p.frame.eventOf = .none) :
      (replySentEffect s).out.Sending :=
    .unsent (by rw [(replySentEffect_events s).1]; exact ho.none (by rw [htx]; exact reply))
  match htx : s.out.tx with
  | some ⟨.reply r, _⟩ => exact sent htx rfl
  | some ⟨.statusSecond r, _⟩ => exact sent htx rfl
  | some ⟨.done n tag, _⟩ | some ⟨.event c o tag, _⟩ | .none => simp only [replySentEffect, htx]; exact ho

theorem Outbound.Sending.doneSent (ho : s.out.Sending) : (doneSentEffect s).out.Sending := by
  match htx : s.out.tx with
  | some ⟨.done n tag, _⟩ =>
    exact .unsent (by rw [(doneSentEffect_out s).1]; exact ho.none (by rw [htx]; rfl))
  | some ⟨.reply r, _⟩ | some ⟨.statusSecond r, _⟩ | some ⟨.event c o tag, _⟩ | .none =>
    simp only [doneSentEffect, htx]; exact ho

/-- After the end of an EVENT frame no slot is being sent (R171). -/
theorem Outbound.Sending.finishEvent {o : Outbound} {cls : EventClass} (only : ∀ e ∈ o.events, e.sending = true → e.cls = cls) :
    ∀ e ∈ Machine.finishEvent cls o.events, e.sending = false := by
  have rest : ∀ e ∈ o.events.filter fun e => !(e.cls == cls && e.sending), e.sending = false := fun e he => by
    obtain ⟨he, other⟩ := List.mem_filter.mp he
    cases hs : e.sending with
    | false => rfl
    | true => simp [hs, only e he hs] at other
  rw [Machine.finishEvent]
  split
  · next nothing =>
    intro e he
    have other := List.find?_eq_none.mp nothing e he
    cases hs : e.sending with
    | false => rfl
    | true => simp [hs, only e he hs] at other
  · split
    · exact rest
    · intro e he
      obtain he | he := List.mem_append.mp he
      · exact rest e he
      · rw [List.mem_singleton.mp he]

theorem Outbound.Lawful.eventSent (ho : s.out.Lawful) : (eventSentEffect s).out.Lawful := by
  match htx : s.out.tx with
  | some ⟨.event c o tag, _⟩ => simp only [eventSentEffect, htx]; exact ho.finishEvent rfl rfl
  | some ⟨.reply r, _⟩ | some ⟨.statusSecond r, _⟩ | some ⟨.done n tag, _⟩ | .none =>
    simp only [eventSentEffect, htx]; exact ho

theorem Outbound.Sending.eventSent (ho : s.out.Sending) : (eventSentEffect s).out.Sending := by
  match htx : s.out.tx with
  | some ⟨.event c o tag, _⟩ =>
    simp only [eventSentEffect, htx]
    refine .unsent (Outbound.Sending.finishEvent fun e he hs => ?_)
    have frame := ho e he hs
    rw [htx] at frame
    cases frame
    rfl
  | some ⟨.reply r, _⟩ | some ⟨.statusSecond r, _⟩ | some ⟨.done n tag, _⟩ | .none =>
    simp only [eventSentEffect, htx]; exact ho

theorem Outbound.Lawful.setEvents (ho : s.out.Lawful) (ops : SetEventsOps) : (setEventsEffect ops s).out.Lawful := by
  refine ho.sublist ?_ fun e he => ?_
  · rw [setEventsEffect, State.answer_events]
    exact List.filter_sublist
  · rw [setEventsEffect, State.answer_events] at he
    rw [setEventsEffect, State.answer_enables]
    exact (List.mem_filter.mp he).2

theorem Outbound.Sending.setEvents (ho : s.out.Sending) (ops : SetEventsOps) : (setEventsEffect ops s).out.Sending := by
  intro e he hs
  rw [setEventsEffect, State.answer_events] at he
  rw [setEventsEffect, State.answer_tx]
  exact ho e (List.mem_filter.mp he).1 hs

theorem Outbound.Sound.empty {o : Outbound} (h : o.events = []) : o.Sound :=
  ⟨⟨by simp [h], by simp [h], by simp [h]⟩, .unsent (by simp [h])⟩

/-- Every effect of the running part keeps the pending slots lawful (R170 to R172). -/
theorem Outbound.Lawful.effectOf {c : Instr} (low : c ≠ .resetPinLow) (power : c ≠ .powerOnReset)
    (ho : s.out.Lawful) : (effectOf c s).out.Lawful :=
  effectOf_keeps (P := fun u => u.out.Lawful) (fun _ _ o hu => o.out.lawful hu) (fun _ ops hu => hu.setEvents ops)
    (fun u ops hu => (resetPartEffect_events u ops).elim (fun o => o.out.lawful hu) fun e => (Outbound.Sound.empty e).1)
    (fun u hu => hu.same (replySentEffect_events u).1 (replySentEffect_events u).2)
    (fun u hu => hu.same (doneSentEffect_out u).1 (doneSentEffect_out u).2) (fun _ hu => hu.eventSent) low power ho

/-- Every effect of the running part keeps pending slots and line transmitter in agreement (R171). -/
theorem Outbound.Sending.effectOf {c : Instr} (low : c ≠ .resetPinLow) (power : c ≠ .powerOnReset)
    (ho : s.out.Sending) : (effectOf c s).out.Sending :=
  effectOf_keeps (P := fun u => u.out.Sending) (fun _ _ o hu => o.out.sending hu) (fun _ ops hu => hu.setEvents ops)
    (fun u ops hu => (resetPartEffect_events u ops).elim (fun o => o.out.sending hu) fun e => (Outbound.Sound.empty e).2)
    (fun _ hu => hu.replySent) (fun _ hu => hu.doneSent) (fun _ hu => hu.eventSent) low power ho

theorem Outbound.Sound.effectOf {c : Instr} (low : c ≠ .resetPinLow) (power : c ≠ .powerOnReset)
    (ho : s.out.Sound) : (effectOf c s).out.Sound := ⟨ho.1.effectOf low power, ho.2.effectOf low power⟩

/-! #### The links' counters and receivers (R165, R167) -/

/-- The counters and the receivers keep their bounds, each on its own. -/
structure LinksKept (s t : State) : Prop where
  counters : s.CountersLaw → t.CountersLaw
  receivers : s.ReceiversLaw → t.ReceiversLaw

theorem LinksKept.trans {u : State} (a : LinksKept s t) (b : LinksKept t u) : LinksKept s u :=
  ⟨b.counters ∘ a.counters, b.receivers ∘ a.receivers⟩

theorem LinksKept.of_eq (counters : t.counters = s.counters) (receivers : t.receivers = s.receivers) : LinksKept s t :=
  ⟨fun h => by rwa [State.CountersLaw, counters], fun h => by rwa [State.ReceiversLaw, receivers]⟩

theorem LinkCounters.zero_bounded : State.CountersLaw (s.withCounters .zero) :=
  ⟨Nat.zero_le _, Nat.zero_le _, Nat.zero_le _, Nat.zero_le _⟩

/-- The ends of the frames leave counters and receivers. -/
theorem sentEffects_links (u : State) :
    ((replySentEffect u).counters = u.counters ∧ (replySentEffect u).receivers = u.receivers) ∧
    ((doneSentEffect u).counters = u.counters ∧ (doneSentEffect u).receivers = u.receivers) ∧
    ((eventSentEffect u).counters = u.counters ∧ (eventSentEffect u).receivers = u.receivers) := by
  refine ⟨?_, ?_, ?_⟩
  · rw [replySentEffect]
    split
    · split <;> exact ⟨rfl, rfl⟩
    all_goals exact ⟨rfl, rfl⟩
  · rw [doneSentEffect]
    split
    · split
      · split
        · rw [State.raiseOccasion_eq]; exact ⟨rfl, rfl⟩
        · exact ⟨rfl, rfl⟩
      · exact ⟨rfl, rfl⟩
    all_goals exact ⟨rfl, rfl⟩
  · rw [eventSentEffect]
    split <;> exact ⟨rfl, rfl⟩

theorem LinksKept.effectOf {c : Instr} (low : c ≠ .resetPinLow) (power : c ≠ .powerOnReset) :
    LinksKept s (effectOf c s) :=
  effectOf_keeps (P := LinksKept s) (fun _ _ o hu => hu.trans ⟨o.counters, o.receivers⟩)
    (fun _ ops hu => hu.trans (.of_eq (by simp [setEventsEffect]) (by simp [setEventsEffect])))
    (fun u ops hu => by
      rw [resetPartEffect]
      split
      · exact hu.trans (.of_eq (by simp) (by simp))
      · refine hu.trans ⟨fun _ => ?_, fun hr => ?_⟩
        · rw [State.CountersLaw, State.answer_counters]
          exact LinkCounters.zero_bounded (s := u)
        · rw [State.ReceiversLaw, State.answer_receivers]
          exact hr)
    (fun u hu => hu.trans (.of_eq (sentEffects_links u).1.1 (sentEffects_links u).1.2))
    (fun u hu => hu.trans (.of_eq (sentEffects_links u).2.1.1 (sentEffects_links u).2.1.2))
    (fun u hu => hu.trans (.of_eq (sentEffects_links u).2.2.1 (sentEffects_links u).2.2.2)) low power ⟨id, id⟩

theorem exec_linksKept {c : Instr} (ht : exec c s = .next t) : LinksKept s t := by
  obtain ⟨-, rfl⟩ | ⟨-, rfl⟩ | ⟨-, level, rfl⟩ | ⟨-, low, power, rfl⟩ := exec_cases ht
  · exact ⟨id, fun _ => ⟨rfl, rfl⟩⟩
  · exact ⟨fun _ => LinkCounters.zero_bounded (s := s), fun _ => ⟨rfl, rfl⟩⟩
  · exact .of_eq rfl rfl
  · exact (LinksKept.effectOf low power).trans (.of_eq (settle_counters _) (settle_receivers _))

/-- A signal moves the receiver of its link within its bounds (R165). -/
theorem State.hear_linksKept (u : State) (x : Signal) : LinksKept u (u.hear x) := by
  cases hr : u.pins.resetLow with
  | true => rw [State.hear_low u x hr]; exact ⟨id, id⟩
  | false =>
    rw [State.hear_runs u x hr]
    refine ⟨id, fun hu => ?_⟩
    cases hl : x.link with
    | line => exact ⟨receiverInBounds_hear x _ hu.1, hu.2⟩
    | drive => exact ⟨hu.1, receiverInBounds_hear x _ hu.2⟩

theorem step_linksKept (ht : step s = .next t) : LinksKept s t := by
  obtain ⟨c, rest, -, ht⟩ | ⟨x, more, -, -, rfl⟩ | rfl := step_cases ht
  · exact LinksKept.trans (t := s.withPending rest) (.of_eq rfl rfl) (exec_linksKept ht)
  · exact LinksKept.trans (t := s.withArriving more) (.of_eq rfl rfl) (State.hear_linksKept _ x)
  · exact ⟨id, id⟩

/-! #### The pending slots and the transmitters over the steps -/

theorem exec_keeps_lawful {c : Instr} (hs : s.out.Lawful) (ht : exec c s = .next t) : t.out.Lawful := by
  obtain ⟨-, rfl⟩ | ⟨-, rfl⟩ | ⟨-, level, rfl⟩ | ⟨-, low, power, rfl⟩ := exec_cases ht
  · exact hs.same rfl rfl
  · exact (Outbound.Sound.empty rfl).1
  · exact hs
  · exact (hs.effectOf low power).settle

theorem step_keeps_lawful (hs : s.out.Lawful) (ht : step s = .next t) : t.out.Lawful :=
  step_keeps (P := fun u => u.out.Lawful) (fun u v hu => hu)
    (fun u more x hu => by rw [State.hear_out]; exact hu) (fun c u v hu hv => exec_keeps_lawful hu hv) hs ht

/-- Settles O57: the moves of the heads and of the block keep the wait list and the done slots, the acts on the links
keep the rest. -/
theorem stepKeepsListsAndCounters : Obligations.StepKeepsListsAndCounters := by
  refine ⟨fun s t hs ht => ?_, fun s t hs ht => ?_, fun s t hs ht => ?_, fun s t hs ht => ?_, fun s t hs ht => ?_⟩
  · exact (step_reaches ht).keeps (fun _ _ m hu => m.waitLaw hu) (fun _ _ b hu => b.waitLaw hu) hs
  · exact (step_reaches ht).keeps (fun _ _ m hu => m.slotsLaw hu) (fun _ _ b hu => b.slotsLaw hu) hs
  · exact State.eventsLaw_iff.mpr (step_keeps_lawful (State.eventsLaw_iff.mp hs) ht)
  · exact (step_linksKept ht).counters hs
  · exact (step_linksKept ht).receivers hs

/-! #### The outputs (R88, R120, R173, R186) -/

/-- The level of LINE HOLD after what follows a command is the one the state asks for (R120). -/
theorem lineHoldLaw_settle (u : State) : (settle u).LineHoldLaw := by
  rw [State.LineHoldLaw, settle_lineHold, settle_machineStop, settle_resetLow]
  simp only [State.lineHoldLevel_iff, State.head_of_heads _ (settle_heads u)]

/-- At the reset values no head is in FAULT and LINE HOLD is the MACHINE STOP level (R186). -/
theorem lineHoldLaw_resetValues (u : State) : u.resetValues.LineHoldLaw := by
  have off (h : Head) : (u.resetValues.head h).state = .off := by
    match h with
    | 0 | 1 | 2 | 3 => rfl
  simp only [State.LineHoldLaw, off]
  simp [State.resetValues, State.setResetPins]

theorem exec_keeps_lineHold {c : Instr} (hs : s.LineHoldLaw) (ht : exec c s = .next t) : t.LineHoldLaw := by
  obtain ⟨-, rfl⟩ | ⟨-, rfl⟩ | ⟨resetLow, level, rfl⟩ | ⟨-, -, -, rfl⟩ := exec_cases ht
  · exact ⟨fun _ => .inr (.inr rfl), fun _ => rfl⟩
  · exact lineHoldLaw_resetValues s
  · exact ⟨fun _ => .inr (.inr resetLow), fun _ => hs.mpr (.inr (.inr resetLow))⟩
  · exact lineHoldLaw_settle _

/-- Outside reset the outbound state is sound and no transmitter idles with a frame ready for it. -/
abbrev State.NoneIdle (s : State) : Prop := s.out.Lawful ∧ s.NoIdleLaw

theorem exec_keeps_noneIdle {c : Instr} (hs : s.NoneIdle) (ht : exec c s = .next t) : t.NoIdleLaw := by
  obtain ⟨-, rfl⟩ | ⟨-, rfl⟩ | ⟨resetLow, level, rfl⟩ | ⟨runs, low, power, rfl⟩ := exec_cases ht
  · exact fun runs => by simp [resetPinLowEffect] at runs
  · exact fun _ => ⟨(Outbound.Sound.empty rfl).2, fun _ => ⟨rfl, rfl, rfl⟩, fun _ => rfl⟩
  · exact fun runs => by cases resetLow.symm.trans runs
  · obtain ⟨lawful, law⟩ := hs
    obtain ⟨kept, sending⟩ := Outbound.Sound.effectOf low power (⟨lawful, (law runs).1⟩ : s.out.Sound)
    exact fun _ => ⟨sending.settle kept, settle_idle sending, settle_drive_idle⟩

/-- Settles O59: LINE HOLD follows every command, and the arbiter and the drive transmitter take the next frame at the
end of each. -/
theorem stepKeepsOutputsUpToDate : Obligations.StepKeepsOutputsUpToDate := by
  refine ⟨fun s t hs ht => ?_, fun s t events hs ht => ?_⟩
  · exact step_keeps (P := State.LineHoldLaw) (fun _ _ hu => hu)
      (fun u more x hu => by simpa [State.LineHoldLaw, State.head_of_heads _ (State.hear_heads _ x)] using hu)
      (fun c _ _ hu hv => exec_keeps_lineHold hu hv) hs ht
  · refine (step_keeps (P := State.NoneIdle) (fun _ _ hu => hu) (fun u more x hu => ?_) (fun c u v hu hv => ?_)
      ⟨State.eventsLaw_iff.mp events, hs⟩ ht).2
    · rw [State.NoneIdle, State.NoIdleLaw, State.SendingLaw, State.hear_out, State.hear_pins, State.hear_drive]
      exact hu
    · exact ⟨exec_keeps_lawful hu.1 hv, exec_keeps_noneIdle hu hv⟩

end Sys2Proof.Machine

/-! ### What a command leaves, and the REPLY of a MANAGE command (R153, R156, R157) -/

namespace Sys2Proof.Machine

@[simp] theorem State.refuse_events (s : State) (status : Status) : (s.refuse status).out.events = s.out.events :=
  s.answer_events status .none

@[simp] theorem State.refuse_notices (s : State) (status : Status) : (s.refuse status).out.notices = s.out.notices :=
  s.answer_notices status .none

@[simp] theorem State.refuse_enables (s : State) (status : Status) : (s.refuse status).out.enables = s.out.enables :=
  s.answer_enables status .none

@[simp] theorem State.raise_out (s : State) (cls : EventClass)
    (d : Details) : (s.raise cls d).out = s.out.raise cls d := rfl

section
variable {s u : State}

/-! #### What is as it was after a command, from what its effect leaves

Each lemma takes the fields of the state `u` that the effect ends in; where `u` is written out as updates of `s`, that
they are those of `s` is `by simp`. -/

theorem sameMap_settle (same : u.block = s.block ∧ u.cells = s.cells) : SameMap s (settle u) := by
  simpa [SameMap] using same

theorem sameTables_settle (same : u.grades = s.grades ∧ u.windows = s.windows ∧ u.sources = s.sources) :
    SameTables s (settle u) := by simpa [SameTables] using same

theorem heads_settle (same : u.heads = s.heads) : (settle u).heads = s.heads := by simpa using same

theorem sameAdmission_settle (same : u.waitList = s.waitList ∧ u.occasions = s.occasions) :
    SameAdmission s (settle u) := by simpa [SameAdmission] using same

theorem sameEvents_settle (same : u.out.events = s.out.events) : SameEvents s (settle u) := by
  rw [SameEvents, settle_eventContents, State.eventContents, same, State.eventContents]

theorem sameNotices_settle (same : u.out.notices = s.out.notices) : SameNotices s (settle u) := by
  rw [SameNotices, settle_noticeContents, State.noticeContents, same, State.noticeContents]

theorem sameDrive_settle (same : u.drive = s.drive) : SameDrive s (settle u) := by
  rw [SameDrive, settle_driveFrames, State.driveFrames, same, State.driveFrames]

theorem sameManagement_settle (same : u.mgmt = s.mgmt ∧ u.out.replySlot = s.out.replySlot) :
    SameManagement s (settle u) := by simpa [SameManagement] using same

theorem sameRest_settle (same : u.pins = s.pins ∧ u.out.enables = s.out.enables ∧ u.counters = s.counters ∧
    u.pending = s.pending) : SameRest s (settle u) := by
  obtain ⟨pins, enables, counters, pending⟩ := same
  rw [SameRest, settle_resetLow, settle_machineStop, settle_enables, settle_counters, settle_pending]
  exact ⟨by rw [pins], by rw [pins], enables, counters, pending⟩

/-- Only the record of head h is changed. -/
theorem sameOtherHeads_settle {h : Head} (others : ∀ g, g ≠ h → u.head g = s.head g) : SameOtherHeads h s (settle u) :=
  fun g hg => (settle_head u g).trans (others g hg)

/-! #### Occurrences -/

/-- An occurrence reaches the pending set as it stood (R170). -/
theorem eventContents_raise {cls : EventClass} {d : Details} (out : u.out = s.out.raise cls d) :
    (settle u).eventContents = s.eventsWith cls d := by
  rw [settle_eventContents, State.eventContents, out, State.eventsWith]

/-! #### The REPLY of a command that is taken (R153, R157) -/

/-- The state with a command in its slot (R153). -/
abbrev State.holding (s : State) (c : Instr) : State := s.withMgmt { s.mgmt with slot := some c }

/-- The REPLY of the command in the slot. -/
theorem State.replyWith_holding {c : Instr} {hdr : Header} {code : Byte} (slot : u.mgmt.slot = some c)
    (hh : c.header? = some hdr) (hc : c.code? = some code) (status : Status) (results : Results) :
    u.replyWith status results = some ⟨hdr.seq, code, status, results⟩ := by
  simp only [State.replyWith, slot, hh, hc]

/-- A command that is taken and answered. -/
theorem answered_settle {c : Instr} {hdr : Header} {code : Byte} {status : Status} {results : Results} {v : State}
    (mgmt : u.mgmt = (s.holding c).mgmt) (before : v.mgmt = (s.holding c).mgmt)
    (reply : u.out.replySlot = (v.answer status results).out.replySlot) (hh : c.header? = some hdr)
    (hc : c.code? = some code) : Answered c ⟨hdr.seq, code, status, results⟩ s (settle u) := by
  refine ⟨by simpa using mgmt, ?_⟩
  rw [settle_replySlot, reply, State.answer_replySlot v (by rw [before]; rfl) hh hc]

/-- A refused command changes nothing but the slot and the reply slot (R157). -/
theorem refusedWith_settle {c : Instr} {hdr : Header} {code : Byte} (status : Status) (hh : c.header? = some hdr)
    (hc : c.code? = some code) : RefusedWith c hdr code status s (settle ((s.holding c).refuse status)) :=
  ⟨answered_settle (v := s.holding c) (by simp) (by simp) rfl hh hc, sameMap_settle (by simp),
    sameTables_settle (by simp), heads_settle (by simp),
    sameAdmission_settle (by simp), sameEvents_settle (by simp), sameNotices_settle (by simp),
    sameDrive_settle (by simp), sameRest_settle (by simp)⟩

/-- A MANAGE command that is taken and carried out. -/
theorem manage_taken {α : Type} {c : Instr} {hdr : Header} {f : α → State → State} {a : α} (h : s.Listens) :
    manage c hdr (.given a) f s = .next (settle (f a (s.holding c))) := manage_given s c hdr f a h

/-- A MANAGE command whose unit refuses it. -/
theorem manage_refused {α : Type} {c : Instr} {hdr : Header} {code : Byte} {f : α → State →
    State} {a : α} {status : Status}
    (h : s.Listens) (refused : f a (s.holding c) = (s.holding c).refuse status)
    (hh : c.header? = some hdr) (hc : c.code? = some code) :
    ∃ t, manage c hdr (.given a) f s = .next t ∧ RefusedWith c hdr code status s t :=
  ⟨_, by rw [manage_taken h, refused], refusedWith_settle status hh hc⟩

end

end Sys2Proof.Machine

/-! ### The command slot, the settings of the part, and the queues (R25 to R33, R153 to R162, R172) -/

namespace Sys2Proof.Machine

variable {s : State}

/-! #### The command slot -/

/-- A command with a code is a MANAGE command. -/
theorem exec_eq_manage {c : Instr} {hdr : Header} {code : Byte} (hh : c.header? = some hdr) (hc : c.code? = some code) :
    ∃ (α : Type) (ops : Operands α) (f : α → State → State), ∀ s, exec c s = manage c hdr ops f s := by
  cases c
  case stroke | initialisationVisitEnd | unloadVisitEnd | evaluation | pass | driveFrameSent | status | complete | halted
    | driveFault | statusGapExpiry | overdueExpiry | machineStopAsserted | machineStopDeasserted | corruptFrame
    | lengthAbove48 | receiveGap | replySent | doneSent | eventSent | resetPinLow | powerOnReset => cases hc
  all_goals
    cases hh
    exact ⟨_, _, _, fun _ => rfl⟩

/-- Settles O8: an occupied slot turns any MANAGE command into an occurrence of MGMT_OVERRUN. -/
theorem occupiedSlotDropsCommand : Obligations.OccupiedSlotDropsCommand := by
  intro c held hdr code s hr hs hh hc
  obtain ⟨α, ops, f, e⟩ := exec_eq_manage hh hc
  exact ⟨_, (e s).trans (manage_occupied s c hdr f ops hr hs hc), eventContents_raise (by simp),
    sameManagement_settle (by simp), sameMap_settle (by simp), sameTables_settle (by simp), heads_settle (by simp),
    sameAdmission_settle (by simp),
    sameNotices_settle (by simp), sameDrive_settle (by simp),
    sameRest_settle (by simp)⟩

/-- Settles O9: the two tests of the management unit refuse before any unit acts. -/
theorem managementUnitTests : Obligations.ManagementUnitTests := by
  refine ⟨fun hdr code s h => manage_refused h rfl rfl rfl, fun c hdr code s h hc wrong => ?_⟩
  rcases wrong with rfl | rfl | rfl | rfl | rfl | rfl | rfl | rfl | rfl | rfl | rfl | rfl | rfl | rfl | rfl | rfl | rfl |
    rfl | rfl | rfl | rfl
  all_goals exact ⟨_, manage_wrongLength s _ hdr _ h, refusedWith_settle .badOperand rfl hc⟩

/-! #### READ_STATUS, SET_EVENTS and SET_JOB_TAG -/

/-- The cause field of the status record (R160). -/
theorem HeadRecord.statusCause_held {hd : HeadRecord} (hs : hd.state = .held) {x : HoldCause}
    (hx : hd.holdCause = some x) :
    hd.statusCause = .hold x := by
  rw [HeadRecord.statusCause, hs]; simp only [hx]

theorem HeadRecord.statusCause_fault {hd : HeadRecord} (hs : hd.state = .fault) {x : FaultCause}
    (hx : hd.latch.cause = some x) : hd.statusCause = .fault x := by
  rw [HeadRecord.statusCause, hs]; simp only [hx]

theorem HeadRecord.statusCause_none {hd : HeadRecord} (held : hd.state ≠ .held) (fault : hd.state ≠ .fault) :
    hd.statusCause = .none := by
  rw [HeadRecord.statusCause]
  split
  · next e => exact absurd e held
  · next e => exact absurd e fault
  all_goals rfl

/-- A head's part of the status record. -/
theorem State.statusRecord_head (s : State) (h : Head) : s.statusRecord.heads.get h = (s.head h).status := by
  simp [State.statusRecord, State.head, get_eq_getElem_val]

/-- Settles O10: the record is that of the state as the command finds it. -/
theorem readStatusReturnsTheRecord : Obligations.ReadStatusReturnsTheRecord := by
  intro hdr ops s h
  refine ⟨_, s.statusRecord, exec_readStatus_listens s hdr ops h, ?_⟩
  rw [readStatusEffect_eq]
  refine ⟨answered_settle (v := s.holding _) (by simp) (by simp) rfl rfl rfl, rfl, rfl, rfl, rfl, rfl, rfl,
    fun g => ?heads, sameMap_settle (by simp),
    sameTables_settle (by simp), heads_settle (by simp), sameAdmission_settle (by simp), sameEvents_settle (by simp),
    sameNotices_settle (by simp), sameDrive_settle (by simp),
    by simp, by simp, by simp, by simp⟩
  case heads =>
    rw [State.statusRecord_head]
    exact ⟨rfl, fun held x => HeadRecord.statusCause_held held, fun fault x => HeadRecord.statusCause_fault fault,
      HeadRecord.statusCause_none, rfl, rfl, rfl, rfl, rfl, rfl⟩

/-- The slots that stay are those of the enabled classes (R172). -/
theorem eventContents_filter (p : EventClass → Bool) (events : List EventSlot) :
    (events.filter fun e => p e.cls).map EventSlot.content = (events.map EventSlot.content).filter fun e => p e.1 := by
  rw [List.filter_map]
  rfl

/-- Settles O12: both are writes of one field, answered with the value before. -/
theorem enablesAndJobTagWritten : Obligations.EnablesAndJobTagWritten := by
  refine ⟨fun hdr ops s h => ⟨_, manage_taken h, ?enables⟩,
    fun hdr ops s h => ⟨_, manage_taken h, ?tag⟩⟩
  case enables =>
    rw [setEventsEffect]
    refine ⟨answered_settle (by simp) (by simp) rfl rfl rfl, by simp, ?events, sameMap_settle (by simp),
      sameTables_settle (by simp), heads_settle (by simp),
      sameAdmission_settle (by simp), sameNotices_settle (by simp), sameDrive_settle (by simp), by simp, by simp,
      by simp, by simp⟩
    rw [settle_eventContents, State.eventContents_answer]
    exact eventContents_filter (enabledIn ops.enables) s.out.events
  case tag =>
    rw [setJobTagEffect]
    refine ⟨by simp, ?reply, sameMap_settle (by simp), sameTables_settle (by simp), heads_settle (by simp),
      sameAdmission_settle (by simp), sameEvents_settle (by simp),
      sameNotices_settle (by simp), sameDrive_settle (by simp), sameRest_settle (by simp)⟩
    rw [settle_replySlot]
    exact State.answer_replySlot _ rfl rfl rfl _ _

/-! #### The queues -/

/-- Settles O14: a flush is the emptied queue and the removed wait entry with its pass. -/
theorem flushEmptiesOneQueue : Obligations.FlushEmptiesOneQueue := by
  intro hdr ops s h
  refine ⟨_, manage_taken h, ?_⟩
  rw [flushQueueEffect, State.flush_eq]
  exact ⟨by simp, sameOtherHeads_settle (by simp +contextual), answered_settle (by simp) (by simp) rfl rfl rfl,
    by simp; rfl, by simp; rfl, sameMap_settle (by simp),
    sameTables_settle (by simp), sameEvents_settle (by simp), sameNotices_settle (by simp), sameDrive_settle (by simp),
    sameRest_settle (by simp)⟩

/-- A stroke is marked notify by its flag or by an enabled window that its line tag matches (R27). -/
theorem State.marks_iff (s : State) (st : Stroke) : s.marks st = true ↔ st.notify = true ∨
    ∃ k : Fin 4, (s.windows.get k).enable = true ∧
      st.tag &&& (s.windows.get k).mask = (s.windows.get k).base &&& (s.windows.get k).mask := by
  have some_window : s.windows.toList.any (TagWindow.hits st.tag) = true ↔
      ∃ k : Fin 4, TagWindow.hits st.tag (s.windows.get k) = true := by
    rw [List.any_eq_true]
    constructor
    · rintro ⟨w, hw, hits⟩
      obtain ⟨i, hi, rfl⟩ := Vector.mem_iff_getElem.mp (Vector.mem_toList_iff.mp hw)
      exact ⟨⟨i, hi⟩, hits⟩
    · rintro ⟨k, hits⟩
      exact ⟨_, Vector.mem_toList_iff.mpr (Vector.getElem_mem k.isLt), hits⟩
  rw [State.marks, Bool.or_eq_true, some_window]
  simp only [TagWindow.hits, Bool.and_eq_true, beq_iff_eq]

/-- An accepted stroke as an update of the state (R25). -/
theorem State.accept_eq (s : State) (st : Stroke) :
    s.accept st = (s.withOccasions (s.occasions ++
      if (s.head st.head).queue = [] then s.kept [.one st.head] else [])).modHead st.head
        fun hd => { hd with queue := hd.queue ++ [⟨st, s.marks st⟩] } := by
  simp only [State.accept, List.isEmpty_iff]
  split
  · rw [State.raiseOccasion_eq]; rfl
  · rw [List.append_nil]; rfl

/-- Settles O13: below 32 strokes the stroke is accepted, at 32 it is an occurrence of QUEUE_OVERFLOW. -/
theorem strokeJoinsQueueOrOverflows : Obligations.StrokeJoinsQueueOrOverflows := by
  intro st s runs
  refine ⟨fun room => ⟨_, ⟨st, s.marks st⟩, act_runs s runs, rfl, s.marks_iff st, ?accepted⟩,
    fun full => ⟨_, act_runs s runs, ?overflow⟩⟩
  case accepted =>
    rw [strokeEffect, if_pos room, State.accept_eq]
    exact ⟨by simp, sameOtherHeads_settle (by simp +contextual), by simp, by simp, sameMap_settle (by simp),
      sameTables_settle (by simp), sameEvents_settle (by simp),
      sameNotices_settle (by simp), sameManagement_settle (by simp), sameDrive_settle (by simp),
      sameRest_settle (by simp)⟩
  case overflow =>
    rw [strokeEffect, if_neg (by omega)]
    exact ⟨eventContents_raise (by simp), heads_settle (by simp), sameAdmission_settle (by simp),
      sameMap_settle (by simp), sameTables_settle (by simp),
      sameNotices_settle (by simp), sameManagement_settle (by simp), sameDrive_settle (by simp),
      sameRest_settle (by simp)⟩

end Sys2Proof.Machine

/-! ### The settings of heads and sources, the tables, and the acts of head control (R12, R29, R115 to R144) -/

namespace Sys2Proof.Machine

variable {s : State}

/-! #### Operand tests -/

theorem monitorPasses_iff (ops : SetMonitorOps) : monitorPasses ops = true ↔ MonitorOperandsPass ops := by
  simp only [monitorPasses, inRange, Bool.and_eq_true, decide_eq_true_eq, and_assoc, MonitorOperandsPass]

theorem timersPass_iff (ops : SetTimersOps) : timersPass ops = true ↔ TimersOperandsPass ops := by
  simp only [timersPass, inRange, Bool.and_eq_true, decide_eq_true_eq, and_assoc, TimersOperandsPass]

theorem settingsPass_iff (ops : SetHeadOps) : settingsPass ops = true ↔ HeadOperandsPass ops := by
  simp only [settingsPass, inRange, Bool.and_eq_true, decide_eq_true_eq, HeadOperandsPass]
  have := ops.clearance.isLt
  omega

theorem gradePasses_iff (ops : WriteGradeOps) : gradePasses ops = true ↔ GradeOperandsPass ops := by
  have grade : (ops.grade != 0) = true ↔ ops.grade.toNat ≠ 0 := by simp [BitVec.toNat_eq]
  have bite : (ops.bite != 0) = true ↔ ops.bite.toNat ≠ 0 := by simp [BitVec.toNat_eq]
  rw [gradePasses, Bool.and_eq_true, decide_eq_true_eq, GradeOperandsPass]
  cases ops.clear with
  | true => simp only [if_true, grade, true_implies, Bool.true_eq_false, false_implies, and_true]
  | false =>
    simp only [Bool.false_eq_true, if_false, Bool.and_eq_true, bite, decide_eq_true_eq, false_implies, true_implies,
      true_and]
    omega

/-! #### SET_MONITOR and SET_TIMERS -/

/-- Settles O27: both write one field of one head's record and answer with the value before. -/
theorem monitorAndTimerSettingsWritten : Obligations.MonitorAndTimerSettingsWritten := by
  refine ⟨fun hdr ops s h => ⟨fun wrong => manage_refused h ?badMonitor rfl rfl, fun pass => ⟨_, manage_taken h,
    ?monitor⟩⟩,
    fun hdr ops s h => ⟨fun wrong => manage_refused h ?badTimers rfl rfl, fun pass => ⟨_, manage_taken h, ?timers⟩⟩⟩
  case badMonitor => exact if_neg (mt (monitorPasses_iff ops).mp wrong)
  case badTimers => exact if_neg (mt (timersPass_iff ops).mp wrong)
  case monitor =>
    rw [setMonitorEffect, if_pos ((monitorPasses_iff ops).mpr pass)]
    exact ⟨by simp [monitorWritten], sameOtherHeads_settle (by simp +contextual), answered_settle (by simp)
      (by simp) rfl rfl rfl, sameAdmission_settle (by simp),
      sameMap_settle (by simp), sameTables_settle (by simp), sameEvents_settle (by simp), sameNotices_settle (by simp),
      sameDrive_settle (by simp), sameRest_settle (by simp)⟩
  case timers =>
    rw [setTimersEffect, if_pos ((timersPass_iff ops).mpr pass)]
    exact ⟨by simp, sameOtherHeads_settle (by simp +contextual), answered_settle (by simp) (by simp) rfl rfl rfl,
      sameAdmission_settle (by simp),
      sameMap_settle (by simp), sameTables_settle (by simp), sameEvents_settle (by simp), sameNotices_settle (by simp),
      sameDrive_settle (by simp), sameRest_settle (by simp)⟩

/-! #### SET_PRESET and SET_SOURCE -/

/-- An entry of a table after a write of one entry. -/
theorem get_set {α : Type} {n : Nat} (v : Vector α n) (i k : Fin n) (x : α) :
    (v.set i.val x i.isLt).get k = if k = i then x else v.get k := by
  rw [get_eq_getElem_val, Vector.getElem_set, get_eq_getElem_val]
  simp only [Fin.ext_iff, eq_comm]

/-- Settles O33: a write of the sender's record, answered with the presets before. -/
theorem presetsWrittenForTheSender : Obligations.PresetsWrittenForTheSender := by
  refine fun hdr ops s h => ⟨fun wrong => manage_refused h (if_pos wrong) rfl rfl, fun pass => ⟨_, manage_taken h, ?_⟩⟩
  rw [setPresetEffect, if_neg (Nat.not_lt.mpr pass), State.setSource]
  refine ⟨fun k => ?written, answered_settle (by simp) (by simp) rfl rfl rfl, by simp, by simp, heads_settle (by simp),
    sameAdmission_settle (by simp),
    sameMap_settle (by simp), sameEvents_settle (by simp), sameNotices_settle (by simp), sameDrive_settle (by simp),
    sameRest_settle (by simp)⟩
  case written =>
    rw [settle_sources, State.answer_sources, State.withSources_sources]
    exact get_set s.sources hdr.source k _

/-- Settles O34: after its two tests a write of the target's record, answered with the set before. -/
theorem protectedSetReplaced : Obligations.ProtectedSetReplaced := by
  refine fun hdr ops s h => ⟨fun other => manage_refused h (if_pos other) rfl rfl,
    fun own wrong => manage_refused h ?bad rfl rfl,
    fun own target is => ⟨_, manage_taken h, ?written⟩⟩
  case bad => rw [setSourceEffect, if_neg (Classical.not_not.mpr own), dif_neg (Nat.not_lt.mpr wrong)]
  case written =>
    have range : ops.target.toNat < 4 := is ▸ target.isLt
    obtain rfl : target = ⟨ops.target.toNat, range⟩ := Fin.ext is
    rw [setSourceEffect, if_neg (Classical.not_not.mpr own), dif_pos range]
    simp only [State.setSource]
    refine ⟨fun k => ?_, answered_settle (by simp) (by simp) rfl rfl rfl, by simp, by simp, heads_settle (by simp),
      sameAdmission_settle (by simp),
      sameMap_settle (by simp), sameEvents_settle (by simp), sameNotices_settle (by simp), sameDrive_settle (by simp),
      sameRest_settle (by simp)⟩
    rw [settle_sources, State.answer_sources, State.withSources_sources]
    refine (get_set s.sources ⟨_, range⟩ k _).trans ?_
    split
    · next e => subst e; rfl
    · rfl

/-! #### WRITE_GRADE and SET_NOTIFY_WINDOW -/

/-- Settles O18: a write of one entry of a table, answered with the entry before. -/
theorem gradesAndWindowsWritten : Obligations.GradesAndWindowsWritten := by
  refine ⟨fun hdr ops s h => ⟨fun wrong => manage_refused h ?badGrade rfl rfl, fun pass g is => ⟨_, manage_taken h,
    ?grade⟩⟩,
    fun hdr ops s h => ⟨fun w is => ⟨_, manage_taken h, ?window⟩, fun wrong => manage_refused h ?badWindow rfl rfl⟩⟩
  case badGrade =>
    simp only [writeGradeEffect, if_neg (mt (gradePasses_iff ops).mp wrong), dite_eq_ite, ite_self]
  case badWindow => exact dif_neg (Nat.not_lt.mpr wrong)
  case grade =>
    have range : ops.grade.toNat < 16 := is ▸ g.isLt
    obtain rfl : g = ⟨ops.grade.toNat, range⟩ := Fin.ext is
    rw [writeGradeEffect, dif_pos range, if_pos ((gradePasses_iff ops).mpr pass), State.raiseOccasion_eq]
    refine ⟨fun k => ?_, answered_settle (by simp) (by simp) rfl rfl rfl, by simp, by simp, by simp, by simp; rfl,
      sameMap_settle (by simp),
      heads_settle (by simp), sameEvents_settle (by simp), sameNotices_settle (by simp), sameDrive_settle (by simp),
      sameRest_settle (by simp)⟩
    simpa [gradeWritten, GradeEntry.unset] using get_set s.grades ⟨_, range⟩ k _
  case window =>
    have range : ops.window.toNat < 4 := is ▸ w.isLt
    obtain rfl : w = ⟨ops.window.toNat, range⟩ := Fin.ext is
    rw [setNotifyWindowEffect, dif_pos range]
    refine ⟨fun k => ?_, answered_settle (by simp) (by simp) rfl rfl rfl, by simp, by simp, sameMap_settle (by simp),
      heads_settle (by simp),
      sameAdmission_settle (by simp), sameEvents_settle (by simp), sameNotices_settle (by simp),
      sameDrive_settle (by simp), sameRest_settle (by simp)⟩
    simpa using get_set s.windows ⟨_, range⟩ k _

/-! #### SET_POSITION and RELEASE_HEAD -/

/-- Settles O20: after its two tests both points are the one given. -/
theorem setPositionMovesBothPoints : Obligations.SetPositionMovesBothPoints := by
  refine fun hdr ops s h => ⟨fun fault => manage_refused h (if_pos fault) rfl rfl,
    fun live flying => manage_refused h ?busy rfl rfl,
    fun live idle => ⟨_, manage_taken h, ?moved⟩⟩
  case busy =>
    rw [setPositionEffect, State.head_withMgmt, if_neg live, if_pos (by simpa using flying)]
  case moved =>
    rw [setPositionEffect, State.head_withMgmt, if_neg live, if_neg (by simpa using idle)]
    exact ⟨by simp [HeadRecord.placeAt], sameOtherHeads_settle (by simp +contextual), answered_settle (by simp)
      (by simp) rfl rfl rfl, sameAdmission_settle (by simp),
      sameMap_settle (by simp), sameTables_settle (by simp), sameEvents_settle (by simp), sameNotices_settle (by simp),
      sameDrive_settle (by simp), sameRest_settle (by simp)⟩

/-- Settles O22: a held head enters the state its list gives, and is evaluated alone. -/
theorem releaseHeadLeavesHeld : Obligations.ReleaseHeadLeavesHeld := by
  refine fun hdr ops s h => ⟨fun other => manage_refused h (if_neg other) rfl rfl, fun held => ⟨_, manage_taken h, ?_⟩⟩
  have entered : (s.head ops.head).releasedTo = if (s.head ops.head).inFlight = [] then HeadState.ready else .cutting := by
    simp only [HeadRecord.releasedTo, List.isEmpty_iff]
  rw [releaseHeadEffect, State.head_withMgmt, if_pos held, State.raiseOccasion_eq, entered]
  exact ⟨by simp [entered], sameOtherHeads_settle (by simp +contextual), answered_settle (by simp)
    (by simp) rfl rfl rfl, by simp, by simp; rfl, sameMap_settle (by simp),
    sameTables_settle (by simp), sameEvents_settle (by simp), sameNotices_settle (by simp), sameDrive_settle (by simp),
    sameRest_settle (by simp)⟩

/-! #### HOLD_HEAD -/

/-- The drive link after a halt request (R89). -/
theorem driveFrames_halted (s : State) (h : Head) (hd : HeadRecord) :
    (s.withDrive (s.driveHalted h hd.haltOutstanding)).driveFrames = s.framesHalted h hd := by
  simp only [State.driveFrames, State.withDrive_drive, State.driveHalted, State.framesHalted]
  split
  · rfl
  · rw [List.append_assoc]

theorem driveFrames_of_drive {s t : State} (drive : t.drive = s.drive) : t.driveFrames = s.driveFrames := by
  rw [State.driveFrames, drive, State.driveFrames]

/-- The hold cause after a HOLD_HEAD (R125). -/
def HeadRecord.causeHeld (hard : Bool) (hd : HeadRecord) : Option HoldCause :=
  if hard then some .hard else if hd.state = .held then hd.holdCause else some .soft

/-- A head's record after a HOLD_HEAD that is taken, but for the debt of its REPLY (R125, R126). -/
def HeadRecord.heldBy (hard : Bool) (hd : HeadRecord) : HeadRecord :=
  { hd with
    state := .held
    holdCause := hd.causeHeld hard
    haltOutstanding := hd.haltOutstanding || (hard && !hd.inFlight.isEmpty) }

/-- A soft hold leaves a held head as it is (R125). -/
theorem HeadRecord.heldBy_self {hd : HeadRecord} (held : hd.state = .held) : hd.heldBy false = hd := by
  cases hd
  simp_all [HeadRecord.heldBy, HeadRecord.causeHeld]

/-- The debt of a hold REPLY is unchanged with nothing in flight (R127). -/
theorem HeadRecord.owed_self {hd : HeadRecord} (idle : hd.inFlight = []) :
    { hd with holdReplyOwed := hd.holdReplyOwed || !hd.inFlight.isEmpty } = hd := by
  cases hd
  simp_all

/-- What a HOLD_HEAD that is taken does beside its head's record and its REPLY (R52, R89, R126). -/
abbrev State.heldAround (s : State) (h : Head) (hard : Bool) : State :=
  ((s.withDrive (if hard then s.driveHalted h (s.head h).haltOutstanding else s.drive)).withWaitList
    (if (s.head h).state = .held then s.waitList else s.waitsWithout h)).withOccasions
    (s.occasions ++ if (s.head h).state = .held then [] else s.passAfterWait h)

/-- The hold of a head that is not in OFF or FAULT as an update of the state (R125, R126). -/
theorem State.hold_eq (s : State) (h : Head) (hard : Bool) (takes : (s.head h).TakesFaults) :
    s.hold h hard = (s.heldAround h hard).modHead h (HeadRecord.heldBy hard) := by
  have halted (u : State) (f : HeadRecord → HeadRecord)
    (flag : (f (u.head h)).haltOutstanding = (u.head h).haltOutstanding) :
      (u.modHead h f).requestHalt h =
        (u.withDrive (u.driveHalted h (u.head h).haltOutstanding)).modHead h fun hd => (f hd).halting := by
    rw [State.requestHalt_eq, State.head_modHead_same, flag, State.modHead_withDrive, State.modHead_modHead]
    rfl
  have entering (live : (s.head h).state ≠ .held) : s.hold h hard =
      (s.heldAround h hard).modHead h (HeadRecord.heldBy hard) := by
    have taken : s.hold h hard = if hard then (s.enterHeld h .hard).requestHalt h else s.enterHeld h .soft := by
      rw [State.hold.eq_def]
      obtain hs | hs | hs := takes
      · rw [hs]; cases hard <;> rfl
      · rw [hs]; cases hard <;> rfl
      · exact absurd hs live
    simp only [taken, State.heldAround, if_neg live]
    cases hard with
    | false =>
      simp only [Bool.false_eq_true, if_false, State.enterHeld_eq]
      exact State.modHead_congr _ h (by simp [HeadRecord.heldBy, HeadRecord.causeHeld, live])
    | true =>
      simp only [if_true, State.enterHeld_eq]
      rw [halted _ _ rfl]
      exact State.modHead_congr _ h (by simp [HeadRecord.heldBy, HeadRecord.causeHeld, HeadRecord.halting])
  by_cases held : (s.head h).state = .held
  · simp only [State.hold, State.heldAround, held, if_true, List.append_nil]
    cases hard with
    | false => exact (State.modHead_self s h _ (HeadRecord.heldBy_self held)).symm
    | true =>
      simp only
      rw [halted _ _ rfl]
      exact State.modHead_congr _ h (by simp [HeadRecord.heldBy, HeadRecord.causeHeld, HeadRecord.halting, held])
  · exact entering held

/-- The REPLY of a HOLD_HEAD, at once or owed (R127). -/
theorem State.oweHold_eq (s : State) (h : Head) :
    s.oweHold h = (s.withReply (if (s.head h).inFlight = []
      then s.replyWith .ok (.holdHead (s.head h).holdCause (s.head h).reported) else s.out.replySlot)).modHead h
      fun hd => { hd with holdReplyOwed := hd.holdReplyOwed || !hd.inFlight.isEmpty } := by
  rw [State.oweHold]
  simp only [List.isEmpty_iff]
  split
  · next idle =>
    rw [State.answer_withReply]
    exact (State.modHead_self _ h _ (HeadRecord.owed_self idle)).symm
  · next flying => exact State.modHead_congr s h (by simp [flying])

/-- A HOLD_HEAD that is taken as an update of the state (R125 to R127). -/
theorem holdHeadEffect_eq (s : State) (ops : HoldHeadOps) (takes : (s.head ops.head).TakesFaults) :
    holdHeadEffect ops s = ((s.heldAround ops.head ops.hard).withReply (if (s.head ops.head).inFlight = []
      then s.replyWith .ok (.holdHead ((s.head ops.head).causeHeld ops.hard) (s.head ops.head).reported)
      else s.out.replySlot)).modHead ops.head fun hd =>
        { hd.heldBy ops.hard with holdReplyOwed := hd.holdReplyOwed || !hd.inFlight.isEmpty } := by
  have taken : holdHeadEffect ops s = (s.hold ops.head ops.hard).oweHold ops.head := by
    rw [holdHeadEffect]
    obtain hs | hs | hs := takes <;> rw [hs]
  rw [taken, State.hold_eq s _ _ takes, State.oweHold_eq, State.modHead_withReply, State.modHead_modHead]
  simp only [State.head_modHead_same, State.modHead_replyWith, State.modHead_out]
  rfl

/-- Settles O21: the hold, its halt request and its REPLY. -/
theorem holdHeadHoldsAndHalts : Obligations.HoldHeadHoldsAndHalts := by
  refine fun hdr ops s h => ⟨fun off => manage_refused h ?refused rfl rfl, fun takes => ⟨_, manage_taken h, ?held⟩⟩
  case refused =>
    rw [holdHeadEffect, State.head_withMgmt]
    obtain hs | hs := off <;> rw [hs]
  case held =>
    rw [holdHeadEffect_eq (s.holding _) ops takes, State.replyWith_holding (u := s.holding _) rfl rfl rfl]
    refine ⟨by simp [HeadRecord.heldBy, HeadRecord.causeHeld]; rfl, sameOtherHeads_settle (by simp +contextual),
      ?frames, by simp, ?reply, by simp; rfl,
      by simp; rfl, sameMap_settle (by simp), sameTables_settle (by simp), sameEvents_settle (by simp),
      sameNotices_settle (by simp), sameRest_settle (by simp)⟩
    case frames =>
      rw [settle_driveFrames]
      cases ops.hard with
      | false => exact driveFrames_of_drive (by simp)
      | true =>
        rw [if_pos rfl, ← driveFrames_halted]
        exact driveFrames_of_drive (by simp [State.driveHalted])
    case reply =>
      simp only [settle_replySlot, State.modHead_out, State.withOut_out, State.head_withMgmt, State.withMgmt_out,
        HeadRecord.causeHeld]
      rfl

end Sys2Proof.Machine

/-! ### SET_HEAD, CLEAR_HEAD and the visits of the block (R14 to R20, R121 to R123, R136 to R138) -/

namespace Sys2Proof.Machine

variable {s : State}

/-! #### SET_HEAD -/

/-- What a SET_HEAD that passes the table of R122 does. -/
theorem enableResult_of_passes {hd : HeadRecord} {stop enable : Bool} (pass : EnablePasses hd stop enable) :
    enableResult hd stop enable =
      if hd.state = .off ∧ enable = true then .entersReady
      else if hd.state ≠ .off ∧ enable = false then .entersOff else .unchanged := by
  obtain ⟨stopped, busy, fault⟩ := pass
  rw [enableResult.eq_def]
  cases hs : hd.state <;> cases enable
  case off.true => simp [stopped hs rfl]
  case ready.false => simp [busy (.inl hs) rfl]
  case cutting.false => simp [busy (.inr (.inl hs)) rfl]
  case held.false => simp [busy (.inr (.inr hs)) rfl]
  case fault.false => exact absurd (fault hs) Bool.false_ne_true
  all_goals rfl

/-- The write of the six settings, with its pass and its REPLY, as an update of the state (R121, R123). -/
theorem State.writeSettings_eq (s : State) (ops : SetHeadOps) (previous : Settings) :
    s.writeSettings ops previous = ((s.withOccasions (s.occasions ++ s.kept [.pass none])).modHead ops.head fun hd =>
      { hd with settings := settingsWritten ops }).answer .ok (.setHead (s.head ops.head).state previous) := by
  rw [State.writeSettings, State.raiseOccasion_eq]
  rfl

/-- An answer and the occasions, in either order. -/
theorem State.answer_withOccasions (s : State) (status : Status) (results : Results) (v : List Occasion) :
    (s.answer status results).withOccasions v = (s.withOccasions v).answer status results := by
  rw [State.answer_withReply, State.answer_withReply]
  rfl

/-- A head whose enable target moves nothing (R122). -/
theorem stateEnabled_stays {state : HeadState} {enable : Bool} (ready : ¬(state = .off ∧ enable = true))
    (off : ¬(state ≠ .off ∧ enable = false)) : stateEnabled state enable = state := by
  cases enable with
  | true =>
    cases state
    case off => exact absurd ⟨rfl, rfl⟩ ready
    all_goals rfl
  | false =>
    obtain rfl : state = .off := Classical.not_not.mp fun other => off ⟨other, rfl⟩
    rfl

/-- A head that enters OFF (R122). -/
theorem stateEnabled_off {hd : HeadRecord} {stop enable : Bool} (off : hd.state ≠ .off ∧ enable = false)
    (pass : EnablePasses hd stop enable) : stateEnabled hd.state enable = .off := by
  obtain ⟨-, rfl⟩ := off
  cases hs : hd.state
  case fault => exact absurd (pass.2.2 hs) Bool.false_ne_true
  all_goals rfl

/-- Settles O19: after its tests the table of R122 moves the state, and the settings are written in every case. -/
theorem setHeadWritesSettings : Obligations.SetHeadWritesSettings := by
  intro hdr ops s h
  have passed (pass : HeadOperandsPass ops) : (!settingsPass ops) = false := by simp [(settingsPass_iff ops).mpr pass]
  have refused {status : Status} (pass : HeadOperandsPass ops)
      (table : enableResult (s.head ops.head) s.pins.machineStop ops.enable = .refused status) :
      ∃ t, exec (.setHead hdr (.given ops)) s = .next t ∧
        RefusedWith (.setHead hdr (.given ops)) hdr 0x10 status s t := by
    refine manage_refused h ?_ rfl rfl
    simp only [setHeadEffect, passed pass, State.head_withMgmt, State.withMgmt_pins, table, Bool.false_eq_true,
      if_false]
  refine ⟨fun wrong => manage_refused h ?bad rfl rfl, fun pass off on stop => refused pass ?stopped,
    fun pass takes off flying => refused pass ?busy, fun pass fault off => refused pass ?fault,
    fun pass enable => ⟨_, manage_taken h, ?taken⟩⟩
  case bad => simp [setHeadEffect, mt (settingsPass_iff ops).mp wrong]
  case stopped => simp [enableResult, off, on, stop]
  case busy =>
    have busy : (s.head ops.head).inFlight.isEmpty = false := by simpa using flying
    obtain hs | hs | hs := takes <;> simp [enableResult, hs, off, busy]
  case fault => simp [enableResult, fault, off]
  case taken =>
    simp only [setHeadEffect, passed pass, State.head_withMgmt, State.withMgmt_pins, enableResult_of_passes enable,
      Bool.false_eq_true, if_false]
    by_cases ready : (s.head ops.head).state = .off ∧ ops.enable = true
    · have entered : stateEnabled (s.head ops.head).state ops.enable = .ready := by rw [ready.1, ready.2]; rfl
      have stays : ¬((s.head ops.head).state ≠ .off ∧ ops.enable = false) := fun o => o.1 ready.1
      simp only [if_pos ready, if_neg stays, entered, State.writeSettings_eq, State.raiseOccasion_eq,
        State.answer_withOccasions, State.head_modHead_same]
      exact ⟨by simp [settingsWritten], sameOtherHeads_settle (by simp +contextual), answered_settle (by simp)
        (by simp) rfl rfl rfl, by simp, by simp; rfl,
        sameMap_settle (by simp), sameTables_settle (by simp), sameEvents_settle (by simp),
        sameNotices_settle (by simp), sameDrive_settle (by simp), sameRest_settle (by simp)⟩
    · by_cases off : (s.head ops.head).state ≠ .off ∧ ops.enable = false
      · have entered : stateEnabled (s.head ops.head).state ops.enable = .off := stateEnabled_off off enable
        simp only [if_neg ready, if_pos off, entered, State.writeSettings_eq, State.enterOff_eq,
          State.head_modHead_same]
        exact ⟨by simp [settingsWritten], sameOtherHeads_settle (by simp +contextual), answered_settle (by simp)
          (by simp) rfl rfl rfl, by simp; rfl, by simp; rfl,
          sameMap_settle (by simp), sameTables_settle (by simp), sameEvents_settle (by simp),
          sameNotices_settle (by simp), sameDrive_settle (by simp), sameRest_settle (by simp)⟩
      · simp only [if_neg ready, if_neg off, stateEnabled_stays ready off, State.writeSettings_eq]
        exact ⟨by simp [settingsWritten], sameOtherHeads_settle (by simp +contextual), answered_settle (by simp)
          (by simp) rfl rfl rfl, by simp, by simp; rfl,
          sameMap_settle (by simp), sameTables_settle (by simp), sameEvents_settle (by simp),
          sameNotices_settle (by simp), sameDrive_settle (by simp), sameRest_settle (by simp)⟩

end Sys2Proof.Machine

/-! ### CLEAR_HEAD and the visits of the block (R14 to R20, R136 to R138) -/

namespace Sys2Proof.Machine

variable {s : State}

/-! #### CLEAR_HEAD -/

/-- The notices of resolved records (R96, R137). -/
theorem flatMap_notices (l : List InFlight) :
    (l.flatMap fun r => r.notices .unresolved (some r.resolvedCells)).map QueuedNotice.notice =
      (l.filter InFlight.reserved).map fun r => ⟨r.stroke.head, r.issue, r.stroke.tag, .unresolved,
        some (if r.stroke.kind = .cut then r.pathLength + 1 else 0), r.ratedFeed⟩ := by
  induction l with
  | nil => rfl
  | cons r l ih =>
    have cells : r.resolvedCells = if r.stroke.kind = .cut then r.pathLength + 1 else 0 := by
      rw [InFlight.resolvedCells]
      cases r.stroke.kind <;> rfl
    rw [List.flatMap_cons, List.map_append, ih, InFlight.notices, List.filter_cons]
    split
    · rw [cells]; rfl
    · rfl

/-- Settles O23: after its two tests every record is resolved, and the head is restored. -/
theorem clearHeadRestoresTheHead : Obligations.ClearHeadRestoresTheHead := by
  refine fun hdr ops s h => ⟨fun other => manage_refused h (if_pos other) rfl rfl,
    fun fault stop => manage_refused h ?stopped rfl rfl, fun fault go => ⟨_, manage_taken h, ?cleared⟩⟩
  case stopped => rw [clearHeadEffect, State.head_withMgmt, if_neg (Classical.not_not.mpr fault), State.withMgmt_pins,
    if_pos stop]
  case cleared =>
    rw [clearHeadEffect, State.head_withMgmt, if_neg (Classical.not_not.mpr fault), State.withMgmt_pins, if_neg (by simp [go]),
      State.resolveAll_restore_eq, State.raiseOccasion_eq, State.answer_withOccasions]
    refine ⟨by simp [HeadRecord.cleared]; rfl, sameOtherHeads_settle (by simp +contextual), answered_settle (by simp)
      (by simp) rfl rfl rfl, ?notices, ?frames,
      ?occasions, by simp, by simp, sameTables_settle (by simp), sameEvents_settle (by simp), sameRest_settle (by simp)⟩
    case notices =>
      rw [settle_noticeContents]
      simp [State.noticeContents, flatMap_notices]
    case frames =>
      rw [settle_driveFrames]
      simp [State.driveFrames]
    case occasions =>
      rw [State.kept_append, ← List.append_assoc]
      simp
      rfl

end Sys2Proof.Machine

/-! ### The visits of the block (R14 to R20) -/

namespace Sys2Proof.Machine

open Sys2Proof.Laws

variable {s : State}

/-! #### Counting the cells of a map -/

/-- The entries of a map in its canonical form are its cells that do not read as an unlisted cell. -/
theorem mem_iff_read {top k : Nat} {m : CutMap} {c : Cell} (hm : CutMap.wf top m) :
    (k, c) ∈ m ↔ CutMap.read top m k = c ∧ c ≠ Cell.fresh top := by
  induction m with
  | nil =>
    refine ⟨fun h => absurd h List.not_mem_nil, fun ⟨h, other⟩ => absurd h.symm other⟩
  | cons e m ih =>
    obtain ⟨a, x⟩ := e
    obtain ⟨above, listed, hm⟩ := CutMap.wf_cons.mp hm
    rw [List.mem_cons, ih hm, CutMap.read]
    split
    · next same =>
      subst same
      rw [CutMap.read_below above]
      constructor
      · rintro (h | ⟨h, other⟩)
        · cases h; exact ⟨rfl, listed⟩
        · exact absurd h.symm other
      · rintro ⟨rfl, -⟩
        exact .inl rfl
    · next other =>
      constructor
      · rintro (h | h)
        · cases h; exact absurd rfl other
        · exact h
      · exact .inr

/-- The cells of a map of given size, row by row. -/
def cellRefs (rows columns : Nat) : List CellRef :=
  (List.range rows).flatMap fun row => (List.range columns).map fun column => ⟨column, row⟩

theorem mem_cellRefs {rows columns : Nat} {c : CellRef} : c ∈ cellRefs rows columns ↔ c.row < rows ∧ c.column < columns := by
  simp only [cellRefs, List.mem_flatMap, List.mem_map, List.mem_range]
  constructor
  · rintro ⟨row, hr, column, hc, rfl⟩
    exact ⟨hr, hc⟩
  · exact fun ⟨hr, hc⟩ => ⟨c.row, hr, c.column, hc, rfl⟩

theorem cellRefs_nodup (rows columns : Nat) : (cellRefs rows columns).Nodup := by
  refine nodup_flatMap_of (fun row _ => ?_) ?_
  · exact nodup_map_of_inj List.nodup_range fun a _ b _ e => by cases e; rfl
  · refine List.nodup_range.imp fun other x ha hb => ?_
    obtain ⟨_, -, rfl⟩ := List.mem_map.mp ha
    obtain ⟨_, -, e⟩ := List.mem_map.mp hb
    cases e
    exact other rfl

/-- A count over the rows and columns of a map is a count over its cells. -/
theorem countP_cellRefs (rows columns : Nat) (p : CellRef → Bool) :
    (cellRefs rows columns).countP p =
      ((List.range rows).map fun row => (List.range columns).countP fun column => p ⟨column, row⟩).sum := by
  rw [cellRefs, List.countP_flatMap]
  congr 1
  exact List.map_congr_left fun row _ => List.countP_map ..

/-- The listed cells with a property that no unlisted cell has are the cells of the map with it (R20). -/
theorem countP_entries {top rows columns : Nat} {m : CutMap} (hm : CutMap.wf top m) (narrow : columns ≤ 256)
    (inMap : ∀ e ∈ m, e.1 % 256 < columns ∧ e.1 / 256 < rows) (p : Cell → Bool) (fresh : p (.fresh top) = false) :
    m.countP (fun e => p e.2) =
      ((List.range rows).map fun row => (List.range columns).countP fun column =>
        p (CutMap.read top m (CellRef.address ⟨column, row⟩))).sum := by
  have listed {c : CellRef} (h : p (CutMap.read top m c.address) = true) :
      (c.address, CutMap.read top m c.address) ∈ m :=
    (mem_iff_read hm).mpr ⟨rfl, fun e => by rw [e, fresh] at h; cases h⟩
  have addresses : List.Perm ((m.filter fun e => p e.2).map Prod.fst)
      (((cellRefs rows columns).filter fun c => p (CutMap.read top m c.address)).map CellRef.address) := by
    refine (List.perm_ext_iff_of_nodup ?_ ?_).mpr fun k => ?_
    · exact (hm.1.imp Nat.ne_of_lt).sublist (List.filter_sublist.map _)
    · refine nodup_map_of_inj (nodup_filter (cellRefs_nodup rows columns) _) fun x hx y hy e => ?_
      have hx := mem_cellRefs.mp (List.mem_filter.mp hx).1
      have hy := mem_cellRefs.mp (List.mem_filter.mp hy).1
      exact CutMap.address_inj (by omega) (by omega) e
    · simp only [List.mem_map, List.mem_filter]
      constructor
      · rintro ⟨⟨k, c⟩, ⟨he, hp⟩, rfl⟩
        obtain ⟨column, row⟩ := inMap _ he
        have address : CellRef.address ⟨k % 256, k / 256⟩ = k := by simp only [CellRef.address]; omega
        refine ⟨⟨k % 256, k / 256⟩, ⟨mem_cellRefs.mpr ⟨row, column⟩, ?_⟩, address⟩
        rw [address, ((mem_iff_read hm).mp he).1]
        exact hp
      · rintro ⟨c, ⟨-, hp⟩, rfl⟩
        exact ⟨_, ⟨listed hp, hp⟩, rfl⟩
  rw [← countP_cellRefs rows columns fun c => p (CutMap.read top m c.address), List.countP_eq_length_filter,
    List.countP_eq_length_filter]
  simpa using addresses.length_eq

/-! #### The flush of every queue (R15, R19, R33, R52) -/

/-- The wait entries of the other heads stay with one head's (R52). -/
theorem waits_waitsWithout {s t : State} {h g : Head} (waitList : t.waitList = s.waitsWithout h) (other : g ≠ h) :
    t.waits g = s.waits g := by
  rw [Bool.eq_iff_iff, State.waits_iff, State.waits_iff, waitList]
  constructor
  · rintro ⟨e, he, rfl⟩
    exact ⟨e, (List.mem_filter.mp he).1, rfl⟩
  · rintro ⟨e, he, rfl⟩
    exact ⟨e, List.mem_filter.mpr ⟨he, bne_iff_ne.mpr other⟩, rfl⟩

/-- The wait list without the entries of one head and then of others. -/
theorem waitsWithout_filter (s : State) (h : Head) (l : List Head) :
    (s.waitsWithout h).filter (fun e => !l.contains e.head) = s.waitList.filter fun e => !(h :: l).contains e.head := by
  rw [State.waitsWithout, List.filter_filter]
  refine List.filter_congr fun e _ => ?_
  rw [List.contains_cons, Bool.not_or, Bool.and_comm]
  rfl

/-- The passes for the removed wait entries of one head and then of others (R52). -/
theorem passAfterWait_append (s : State) (h : Head) (l : List Head) :
    s.passAfterWait h ++ s.kept ((l.filter s.waits).map fun h => .pass (some h)) =
      s.kept (((h :: l).filter s.waits).map fun h => .pass (some h)) := by
  rw [State.passAfterWait, List.filter_cons]
  split
  · exact (s.kept_append [.pass (some h)] _).symm
  · rfl

/-- A head's record with its queue flushed (R33). -/
abbrev HeadRecord.unqueued (hd : HeadRecord) : HeadRecord := { hd with queue := [] }

/-- What the flush of some queues, one after another, comes to. -/
theorem foldl_flush (l : List Head) (once : l.Nodup) (s : State) :
    ∃ v, l.foldl (fun s h => s.flush h) s =
      ((s.withWaitList (s.waitList.filter fun e => !l.contains e.head)).withOccasions
        (s.occasions ++ s.kept ((l.filter s.waits).map fun h => .pass (some h)))).withHeads v ∧
      ∀ g : Head, v.get g = if g ∈ l then (s.head g).unqueued else s.head g := by
  induction l generalizing s with
  | nil =>
    refine ⟨s.heads, ?_, fun g => rfl⟩
    have all : s.waitList.filter (fun e => !([] : List Head).contains e.head) = s.waitList := List.filter_eq_self.mpr fun _ _ => rfl
    have none : s.kept [] = [] := by rw [State.kept]; split <;> rfl
    rw [all, List.filter_nil, List.map_nil, none, List.append_nil]
    rfl
  | cons h l ih =>
    obtain ⟨fresh, once⟩ := List.nodup_cons.mp once
    obtain ⟨v, flushed, heads⟩ := ih once (s.flush h)
    have same : l.filter (s.flush h).waits = l.filter s.waits := List.filter_congr fun g hg =>
      waits_waitsWithout (h := h) (by rw [State.flush_eq]; simp) (fun e => fresh (e ▸ hg))
    refine ⟨v, ?_, fun g => (heads g).trans ?_⟩
    · rw [List.foldl_cons, flushed, same, State.flush_eq, ← passAfterWait_append, ← waitsWithout_filter,
        ← List.append_assoc]
      rfl
    · rw [State.flush_eq, State.head_modHead]
      by_cases here : g = h
      · subst here
        rw [if_neg fresh, if_pos rfl, if_pos List.mem_cons_self]
        simp
      · simp [here]

end Sys2Proof.Machine

/-! ### LOAD_BLOCK, UNLOAD_BLOCK and the ends of their visits (R14 to R20) -/

namespace Sys2Proof.Machine

variable {s : State}

/-- The flush of every queue as an update of the state (R15, R19, R52). -/
theorem State.flushAll_eq (s : State) : ∃ v, s.flushAll =
    ((s.withWaitList []).withOccasions
      (s.occasions ++ s.kept ((allHeads.filter s.waits).map fun h => .pass (some h)))).withHeads v ∧
    ∀ g : Head, v.get g = (s.head g).unqueued := by
  have every (g : Head) : g ∈ allHeads := by decide +revert
  obtain ⟨v, flushed, heads⟩ := foldl_flush allHeads (by decide) s
  have none : s.waitList.filter (fun e => !allHeads.contains e.head) = [] :=
    List.filter_eq_nil_iff.mpr fun e _ => by simp [every e.head]
  rw [none] at flushed
  exact ⟨v, flushed, fun g => (heads g).trans (if_pos (every g))⟩

theorem loadPasses_iff (ops : LoadBlockOps) : loadPasses ops = true ↔ LoadOperandsPass ops := by
  simp only [loadPasses, inRange, Bool.and_eq_true, decide_eq_true_eq, List.all_eq_true, and_assoc, LoadOperandsPass]

/-- A map that lists nothing reads everywhere as uncut, unclaimed and sure (R6, R16). -/
theorem State.cell_of_unlisted (unlisted : s.cells = []) (x : CellRef) : s.cell x = ⟨s.block.top, 0, 0, none, 0,
    false⟩ := by
  rw [State.cell, unlisted]
  rfl

/-- The queued strokes of the four heads. -/
theorem State.queuedStrokes_eq (s : State) : s.queuedStrokes = (s.head 0).queue.length + (s.head 1).queue.length +
    (s.head 2).queue.length + (s.head 3).queue.length := by
  rw [State.queuedStrokes, State.heads_toList]
  simp [Nat.add_assoc]

/-- Settles O15: after its two tests every queue is flushed and the new block record stands. -/
theorem loadBlockEntersInitialising : Obligations.LoadBlockEntersInitialising := by
  refine fun hdr ops s h => ⟨fun wrong => manage_refused h ?bad rfl rfl,
    fun pass flying => manage_refused h ?busy rfl rfl,
    fun pass idle => ⟨_, manage_taken h, ?begun⟩⟩
  case bad => simp [loadBlockEffect, mt (loadPasses_iff ops).mp wrong]
  case busy =>
    have flying : (s.holding (.loadBlock hdr (.given ops))).anyInFlight = true := (State.anyInFlight_iff _).mpr flying
    simp [loadBlockEffect, (loadPasses_iff ops).mpr pass, flying]
  case begun =>
    have none : (s.holding (.loadBlock hdr (.given ops))).anyInFlight = false := (State.anyInFlight_eq_false _).mpr idle
    obtain ⟨v, flushed, heads⟩ := (s.holding (.loadBlock hdr (.given ops))).flushAll_eq
    simp only [loadBlockEffect, (loadPasses_iff ops).mpr pass, none, flushed, State.beginBlock, Bool.not_true,
      Bool.false_eq_true, if_false]
    refine ⟨?block, fun x => ?cells, fun g => ?heads, by simp, by simp, ?mgmt, by simp, sameTables_settle (by simp),
      sameEvents_settle (by simp), sameNotices_settle (by simp), sameDrive_settle (by simp), sameRest_settle (by simp)⟩
    case block => simp [loadRecord, stackTop, Function.comp_def]
    case cells => exact State.cell_of_unlisted (by simp) x
    case heads => exact (settle_head _ g).trans (heads g)
    case mgmt =>
      rw [settle_mgmt, State.withMgmt_mgmt, State.queuedStrokes_eq]
      rfl

/-- Settles O17: after its two tests every queue is flushed and the visit runs. -/
theorem unloadBlockStartsVisit : Obligations.UnloadBlockStartsVisit := by
  refine fun hdr s h => ⟨fun none => manage_refused h ?none rfl rfl,
    fun loaded flying => manage_refused h ?busy rfl rfl,
    fun loaded idle => ⟨_, manage_taken h, ?begun⟩⟩
  case none => rw [unloadBlockEffect, State.withMgmt_block, none]
  case busy =>
    have flying : (s.holding (.unloadBlock hdr (.given .mk))).anyInFlight = true := (State.anyInFlight_iff _).mpr flying
    simp [unloadBlockEffect, loaded, flying]
  case begun =>
    have none : (s.holding (.unloadBlock hdr (.given .mk))).anyInFlight = false := (State.anyInFlight_eq_false _).mpr idle
    obtain ⟨v, flushed, heads⟩ := (s.holding (.unloadBlock hdr (.given .mk))).flushAll_eq
    simp only [unloadBlockEffect, loaded, none, flushed, State.withMgmt_block, Bool.false_eq_true, if_false]
    refine ⟨by simp, by simp, fun g => (settle_head _ g).trans (heads g), by simp, ?occasions, by simp, by simp,
      sameTables_settle (by simp),
      sameEvents_settle (by simp), sameNotices_settle (by simp), sameDrive_settle (by simp), sameRest_settle (by simp)⟩
    case occasions =>
      simp [State.kept, loaded]
      rfl

/-- Settles O16: each end answers the command that waits for it; the counts of the unload visit are those of the map's
cells. -/
theorem visitsEndWithTheirReply : Obligations.VisitsEndWithTheirReply := by
  refine ⟨fun hdr ops s runs initialising slot => ⟨_, act_runs s runs, ?initialised⟩,
    fun hdr ops s runs visit slot block map entries => ⟨_, act_runs s runs, ?unloaded⟩⟩
  case initialised =>
    rw [initialisationVisitEndEffect, initialising]
    simp only [State.raiseOccasion_eq]
    refine ⟨by simp, by simp, fun law x => ?cells, by simp [State.kept], ?reply, by simp, by simp, by simp,
      sameTables_settle (by simp),
      sameEvents_settle (by simp), sameNotices_settle (by simp), sameDrive_settle (by simp), sameRest_settle (by simp)⟩
    case cells => exact (State.cell_of_unlisted (by simp [(law initialising).1]) x).trans (by simp)
    case reply =>
      rw [settle_replySlot]
      exact State.answer_replySlot _ (c := .loadBlock hdr ops) (by simpa using slot) rfl rfl _ _
  case unloaded =>
    have loaded : s.block.state ≠ .noBlock := by rw [block.2.2 visit]; nofun
    have narrow : s.block.columns ≤ 256 := by
      have := (block.2.1 loaded).1
      simp only [inRange, Bool.and_eq_true, decide_eq_true_eq] at this
      exact this.2
    have counted := countP_entries map narrow entries
    rw [unloadVisitEndEffect, if_pos visit]
    refine ⟨by simp [BlockRecord.reset], by simp, ?_, by simp, by simp, sameAdmission_settle (by simp),
      sameTables_settle (by simp),
      sameEvents_settle (by simp), sameNotices_settle (by simp), sameDrive_settle (by simp), sameRest_settle (by simp)⟩
    rw [settle_replySlot]
    refine (State.answer_replySlot _ (c := .unloadBlock hdr ops) (by simpa using slot) rfl rfl _ _).trans ?_
    rw [State.cutCells, State.unsureCells, counted (fun c => c.kerfFloor < s.block.top) (by simp [Cell.fresh]),
      counted Cell.unsure rfl]
    rfl

end Sys2Proof.Machine

/-! ### The resets (R163, R164, R174, R186) -/

namespace Sys2Proof.Machine

variable {s : State}

/-! #### RESET low -/

/-- While RESET is low every command but those of the two input pins is ignored (R186). -/
theorem exec_low_same {c : Instr} (low : s.pins.resetLow = true) (hl : c ≠ .resetPinLow) (hp : c ≠ .powerOnReset)
    (ha : c ≠ .machineStopAsserted) (hd : c ≠ .machineStopDeasserted) : exec c s = .next s := by
  cases c
  case resetPinLow => exact absurd rfl hl
  case powerOnReset => exact absurd rfl hp
  case machineStopAsserted => exact absurd rfl ha
  case machineStopDeasserted => exact absurd rfl hd
  all_goals exact act_low s low

/-- Settles O3: RESET low idles every output, and then nothing but a pin level is taken. -/
theorem resetLowStopsThePart : Obligations.ResetLowStopsThePart :=
  ⟨fun s => ⟨resetPinLowEffect s, rfl, rfl, rfl, rfl, rfl, rfl, rfl, rfl, rfl⟩, fun x s low => State.hear_low s x low,
    fun _ _ low hl hp ha hd => exec_low_same low hl hp ha hd, fun _ low => ⟨takeStop_low low, takeStop_low low⟩⟩

/-! #### RESET_PART -/

/-- At the reset values LINE HOLD follows the MACHINE STOP level (R120). -/
theorem lineHoldLevel_reset {u : State} (heads : u.heads = Vector.replicate 4 .reset) (low : u.pins.resetLow = false) :
    u.lineHoldLevel = u.pins.machineStop := by
  rw [State.lineHoldLevel, low, heads, Bool.false_or]
  exact Bool.or_false _

/-- The four inputs and outputs of the pins, one by one. -/
theorem Pins.eq_of {p q : Pins} (low : p.resetLow = q.resetLow) (stop : p.machineStop = q.machineStop)
    (hold : p.lineHold = q.lineHold) : p = q := by
  cases p
  cases q
  simp_all

/-- With no frame waiting the drive port stays as it is (R88). -/
theorem settle_drive_empty {u : State} (empty : u.drive.queue = []) : (settle u).drive = u.drive := by
  rw [settle_drive, State.startDrive]
  split
  · next waiting => cases empty.symm.trans waiting
  all_goals rfl

/-- Settles O7: with nothing in flight every unit is at its reset values, but for what the command itself keeps. -/
theorem resetPartReturnsThePart : Obligations.ResetPartReturnsThePart := by
  refine fun hdr s h => ⟨fun flying => manage_refused h ?busy rfl rfl, fun idle => ⟨_, manage_taken h, ?reset⟩⟩
  case busy => exact if_pos ((State.anyInFlight_iff (s.holding _)).mpr flying)
  case reset =>
    have none : ¬ (s.holding (.resetPart hdr (.given .mk))).anyInFlight = true := by
      rw [(State.anyInFlight_eq_false (s.holding _)).mpr idle]
      exact Bool.false_ne_true
    simp only [resetPartEffect, if_neg none, State.resetValues, State.setResetPins]
    refine ⟨by simp, by simp [State.reset], by simp, by simp, by simp, by simp, by simp [State.reset],
      by simp [State.reset],
      by simp [State.reset], by simp [State.reset], by simp, ?reply, ?notices, ?events, by simp [State.reset,
      Outbound.reset],
      fun p hp => settle_line_busy _ (by simpa using hp), ?queue, ?frame, Pins.eq_of ?low (by simp) ?hold, by simp,
      by simp⟩
    case reply =>
      rw [settle_replySlot]
      exact State.answer_replySlot _ rfl rfl rfl _ _
    case notices =>
      refine List.map_eq_nil_iff.mp ((settle_noticeContents _).trans ?_)
      simp [State.noticeContents, State.reset, Outbound.reset]
    case events =>
      refine List.map_eq_nil_iff.mp ((settle_eventContents _).trans ?_)
      simp [State.eventContents, State.reset, Outbound.reset]
    case queue => rw [settle_drive_empty (by simp [State.reset])]; simp [State.reset]
    case frame => rw [settle_drive_empty (by simp [State.reset])]; simp
    case low => simpa using h.1.symm
    case hold =>
      rw [settle_lineHold]
      exact (lineHoldLevel_reset (by simp [State.reset]) (by simp)).trans (by simp)

end Sys2Proof.Machine

/-! ### Map programming and the map queries (R146 to R151) -/

namespace Sys2Proof.Machine

open Sys2Proof.Laws

variable {s : State}

/-! #### Flag sets and the two queries -/

/-- A flag set holds the property of each of its 32 entries (R176). -/
theorem getLsbD_flags32 (p : Nat → Bool) (k : Nat) : (flags32 p).getLsbD k = (decide (k < 32) && p k) := by
  have upTo (n : Nat) (hn : n ≤ 32) :
      ((List.range n).foldl (fun v k => if p k then v ||| (1#32 <<< k) else v) (0 : BitVec 32)).getLsbD k =
        (decide (k < n) && p k) := by
    induction n with
    | zero => simp
    | succ n ih =>
      have bit : (1#32 <<< n).getLsbD k = (decide (n < 32) && decide (n = k)) := BitVec.getLsbD_twoPow n k
      rw [List.range_succ, List.foldl_append, List.foldl_cons, List.foldl_nil]
      by_cases here : n = k
      · subst here
        split
        · next hp => rw [BitVec.getLsbD_or, bit]; simp [hp]; omega
        · next hp => rw [ih (by omega)]; simp [hp]
      · have below : decide (k < n + 1) = decide (k < n) := by simp; omega
        rw [below, ← ih (by omega)]
        split
        · rw [BitVec.getLsbD_or, bit]; simp [here]
        · rfl
  exact upTo 32 (Nat.le_refl _)

/-- Settles O36: after their tests both queries answer from the map as it stands. -/
theorem mapQueriesAnswerTheCells : Obligations.MapQueriesAnswerTheCells := by
  refine ⟨fun hdr ops s h => ⟨fun unloaded => manage_refused h (if_pos unloaded) rfl rfl,
    fun loaded wrong => manage_refused h ?badSpan rfl rfl,
    fun loaded pass => ⟨_, s.queryResult ops fun c => c.kerfFloor ≤ ops.level.toNat, s.queryResult ops Cell.unsure,
      manage_taken h, ?span⟩⟩,
    fun hdr ops s h => ⟨fun unloaded => manage_refused h (if_pos unloaded) rfl rfl,
    fun loaded wrong => manage_refused h ?badCell rfl rfl,
    fun loaded pass => ⟨_, manage_taken h, ?cell⟩⟩⟩
  case badSpan =>
    have bad : (!inRange 1 32 ops.count.toNat || decide (s.block.rows ≤ ops.row.toNat)) = true := by
      simp only [inRange, Bool.or_eq_true, Bool.not_eq_true', Bool.and_eq_false_iff, decide_eq_false_iff_not,
        decide_eq_true_eq]
      omega
    rw [spanQueryEffect, State.withMgmt_block, if_neg (Classical.not_not.mpr loaded), if_pos bad]
  case badCell =>
    have bad : (!(CellRef.mk ops.column.toNat ops.row.toNat).inMap s.block) = true := by
      have wrong : ¬(ops.column.toNat < s.block.columns ∧ ops.row.toNat < s.block.rows) := wrong
      simp only [CellRef.inMap, Bool.not_eq_true', Bool.and_eq_false_iff, decide_eq_false_iff_not]
      omega
    simp only [readCellEffect]
    rw [State.withMgmt_block, if_neg (Classical.not_not.mpr loaded), if_pos bad]
  case span =>
    obtain ⟨low, high, row⟩ := pass
    have good : ¬(!inRange 1 32 ops.count.toNat || decide (s.block.rows ≤ ops.row.toNat)) = true := by
      simp [inRange, low, high, row]
    have entry (p : Cell → Bool) (k : Nat) : (s.queryResult ops p).getLsbD k = true ↔ k < ops.count.toNat ∧
        ops.firstColumn.toNat + k < s.block.columns ∧ p (s.cell ⟨ops.firstColumn.toNat + k, ops.row.toNat⟩) = true := by
      rw [State.queryResult, getLsbD_flags32]
      show (decide (k < 32) && (decide (k < ops.count.toNat) && decide (ops.firstColumn.toNat + k < s.block.columns) &&
        p (s.cell ⟨ops.firstColumn.toNat + k, ops.row.toNat⟩))) = true ↔ _
      simp only [Bool.and_eq_true, decide_eq_true_eq, and_assoc, and_iff_right_iff_imp]
      exact fun e => by omega
    rw [spanQueryEffect, State.withMgmt_block, if_neg (Classical.not_not.mpr loaded), if_neg good]
    exact ⟨answered_settle (by simp) (by simp) rfl rfl rfl,
      fun k => (entry _ k).trans (by simp only [decide_eq_true_eq]),
      entry Cell.unsure, sameMap_settle (by simp), sameTables_settle (by simp), heads_settle (by simp),
      sameAdmission_settle (by simp), sameEvents_settle (by simp),
      sameNotices_settle (by simp), sameDrive_settle (by simp), sameRest_settle (by simp)⟩
  case cell =>
    have good : ¬(!(CellRef.mk ops.column.toNat ops.row.toNat).inMap s.block) = true := by
      simpa [CellRef.inMap] using pass
    simp only [readCellEffect]
    rw [State.withMgmt_block, if_neg (Classical.not_not.mpr loaded), if_neg good]
    exact ⟨answered_settle (by simp) (by simp) rfl rfl rfl, sameMap_settle (by simp), sameTables_settle (by simp),
      heads_settle (by simp), sameAdmission_settle (by simp),
      sameEvents_settle (by simp), sameNotices_settle (by simp), sameDrive_settle (by simp), sameRest_settle (by simp)⟩

/-! #### SPAN_WRITE -/

/-- The field byte of a SPAN_WRITE (R146). -/
theorem spanField_eq_none {b : Byte} (h : ¬(b = 0 ∨ b = 1)) : spanField b = none := by
  obtain ⟨zero, one⟩ := not_or.mp h
  rw [spanField, if_neg zero, if_neg one]

section
variable (s : State) (ops : SpanWriteOps) (shield : BitVec 16)

/-- Entry k of a span falls in a column of the map. -/
abbrev State.entryInside (k : Nat) : Bool := decide (ops.firstColumn.toNat + k < s.block.columns)

/-- The protected set holds the zone of the cell of entry k (R147). -/
abbrev State.entryShielded (k : Nat) : Bool :=
  shield.getLsbD (s.cell ⟨ops.firstColumn.toNat + k, ops.row.toNat⟩).zone

/-- The class of an entry by its three tests (R147). -/
theorem State.spanEntry_eq (k : Nat) : s.spanEntry ops shield k =
    if s.entryInside ops k then
      if ops.pattern.getLsbD k then .kept else if s.entryShielded ops shield k then .shielded else .written
    else .outside := by
  simp only [State.spanEntry, State.entryInside, decide_eq_true_eq]
  by_cases inside : ops.firstColumn.toNat + k < s.block.columns
  · exact (if_neg (Nat.not_le.mpr inside)).trans (if_pos inside).symm
  · exact (if_pos (Nat.not_lt.mp inside)).trans (if_neg inside).symm

/-- The four classes by the three tests (R147). -/
theorem State.spanEntry_tests (k : Nat) :
    (s.spanEntry ops shield k == .outside) = !s.entryInside ops k ∧
    (s.spanEntry ops shield k == .kept) = (s.entryInside ops k && ops.pattern.getLsbD k) ∧
    (s.spanEntry ops shield k == .shielded) =
      (s.entryInside ops k && !ops.pattern.getLsbD k && s.entryShielded ops shield k) ∧
    (s.spanEntry ops shield k == .written) =
      (s.entryInside ops k && !ops.pattern.getLsbD k && !s.entryShielded ops shield k) := by
  rw [State.spanEntry_eq]
  cases s.entryInside ops k with
  | false => exact ⟨rfl, rfl, rfl, rfl⟩
  | true =>
    cases ops.pattern.getLsbD k with
    | true => exact ⟨rfl, rfl, rfl, rfl⟩
    | false => cases s.entryShielded ops shield k <;> exact ⟨rfl, rfl, rfl, rfl⟩

/-- The entries of a class are counted by its test. -/
theorem State.spanEntries_length (e : SpanEntry) :
    (s.spanEntries ops shield e).length = (List.range ops.count.toNat).countP fun k => s.spanEntry ops shield k == e := by
  rw [State.spanEntries, List.countP_eq_length_filter]

/-- Every entry is of one of the four classes. -/
theorem State.spanEntries_total : (s.spanEntries ops shield .written).length + (s.spanEntries ops shield .shielded).length +
    (s.spanEntries ops shield .outside).length + (s.spanEntries ops shield .kept).length = ops.count.toNat := by
  have counts (l : List Nat) : l.countP (fun k => s.spanEntry ops shield k == .written) +
      l.countP (fun k => s.spanEntry ops shield k == .shielded) +
      l.countP (fun k => s.spanEntry ops shield k == .outside) +
      l.countP (fun k => s.spanEntry ops shield k == .kept) = l.length := by
    induction l with
    | nil => rfl
    | cons k l ih =>
      simp only [List.countP_cons, List.length_cons]
      cases s.spanEntry ops shield k <;> simp <;> omega
  simp only [State.spanEntries_length]
  exact (counts _).trans List.length_range

end

/-- The cells that a SPAN_WRITE names are different cells (R147). -/
theorem spanCells_nodup (row firstColumn : Nat) {l : List Nat} (once : l.Nodup) :
    ((l.map (spanCell row firstColumn)).map CellRef.address).Nodup := by
  rw [List.map_map]
  refine nodup_map_of_inj once fun a ha b hb e => ?_
  simp only [Function.comp, CellRef.address, spanCell] at e
  omega

/-- A SPAN_WRITE that has passed its tests as an update of the state (R147, R148). -/
theorem State.writeSpan_eq (s : State) (src : Source) (field : SpanField) (ops : SpanWriteOps) :
    let entries := s.spanEntries ops (s.source src).protectedSet
    s.writeSpan src field ops = ((s.modCells (Cell.program field (s.source src))
        ((entries .written).map (spanCell ops.row.toNat ops.firstColumn.toNat))).withOccasions
        (s.occasions ++ if (entries .written).length = 0 then [] else s.kept [.pass none])).answer .ok
      (.spanWrite (entries .written).length (entries .shielded).length (entries .outside).length) := by
  simp only [State.writeSpan, List.isEmpty_iff_length_eq_zero]
  split
  · rw [List.append_nil]; rfl
  · rw [State.raiseOccasion_eq]; rfl

/-- The cells after a SPAN_WRITE (R147). -/
theorem cell_modCells_span {u : State} (wf : s.MapLaw) (block : u.block = s.block)
    {row firstColumn : Nat} {l : List Nat} {f : Cell → Cell} (once : l.Nodup)
    (narrow : ∀ k ∈ l, firstColumn + k < 256)
    (cells : u.cells = CutMap.modifyAll s.block.top f (l.map (spanCell row firstColumn)) s.cells)
    {x : CellRef} (hx : x.column < 256) :
    u.cell x = if x.row = row ∧ ∃ k ∈ l, x.column = firstColumn + k then f (s.cell x) else s.cell x := by
  have named : x.address ∈ (l.map (spanCell row firstColumn)).map CellRef.address ↔
      x.row = row ∧ ∃ k ∈ l, x.column = firstColumn + k := by
    constructor
    · intro hm
      obtain ⟨y, hy, e⟩ := List.mem_map.mp hm
      obtain ⟨k, hk, rfl⟩ := List.mem_map.mp hy
      obtain rfl := CutMap.address_inj (y := x) (narrow k hk) hx e
      exact ⟨rfl, k, hk, rfl⟩
    · rintro ⟨hr, k, hk, hc⟩
      exact List.mem_map.mpr ⟨spanCell row firstColumn k, List.mem_map_of_mem hk, by
        simp only [CellRef.address, spanCell, hr, hc]⟩
  rw [State.cell, block, cells, CutMap.read_modifyAll wf (spanCells_nodup row firstColumn once)]
  simp only [named, State.cell]

/-- The write of one field of a cell (R147). -/
theorem spanField_program {b : Byte} (named : b = 0 ∨ b = 1) (r : SourceRecord) : ∃ field, spanField b = some field ∧
    ∀ c : Cell, c.program field r = if b = 0 then { c with zone := r.zonePreset } else { c with floorLimit := r.floorPreset } := by
  obtain rfl | rfl := named
  · exact ⟨.zone, rfl, fun _ => rfl⟩
  · exact ⟨.floor, rfl, fun _ => rfl⟩

/-- Every occasion is kept while the block is LOADED (R62). -/
theorem State.kept_of_loaded (loaded : s.block.state = .loaded) (l : List Occasion) : s.kept l = l := by
  rw [State.kept, loaded]
  rfl

/-- Settles O35: after its tests the written entries are those inside, unmarked and unprotected. -/
theorem spanWriteProgramsCells : Obligations.SpanWriteProgramsCells := by
  refine fun hdr ops s h => ⟨fun unloaded => manage_refused h (if_pos unloaded) rfl rfl,
    fun loaded wrong => manage_refused h ?bad rfl rfl,
    fun loaded count row field block map => ⟨_, manage_taken h, ?written⟩⟩
  case bad =>
    rw [spanWriteEffect, State.withMgmt_block, if_neg (Classical.not_not.mpr loaded)]
    by_cases count : 1 ≤ ops.count.toNat ∧ ops.count.toNat ≤ 32
    · by_cases row : ops.row.toNat < s.block.rows
      · have noField : ¬(ops.field = 0 ∨ ops.field = 1) := fun field => wrong ⟨count, row, field⟩
        rw [spanField_eq_none noField]
        exact (if_neg (by simp [inRange, count])).trans (if_neg (Nat.not_le.mpr row))
      · exact (if_neg (by simp [inRange, count])).trans (if_pos (Nat.not_lt.mp row))
    · refine if_pos ?_
      simp only [inRange, Bool.not_eq_true', Bool.and_eq_false_iff, decide_eq_false_iff_not]
      omega
  case written =>
    obtain ⟨f, named, program⟩ := spanField_program field (s.source hdr.source)
    have taken : spanWriteEffect hdr.source ops (s.holding (.spanWrite hdr (.given ops))) =
        (s.holding (.spanWrite hdr (.given ops))).writeSpan hdr.source f ops := by
      rw [spanWriteEffect, State.withMgmt_block, if_neg (Classical.not_not.mpr loaded), named]
      exact (if_neg (by simp [inRange, count])).trans (if_neg (Nat.not_le.mpr row))
    rw [taken, State.writeSpan_eq]
    have narrow : s.block.columns ≤ 256 := by
      have := (block.2.1 (by rw [loaded]; nofun)).1
      simp only [inRange, Bool.and_eq_true, decide_eq_true_eq] at this
      exact this.2
    have tests := s.spanEntry_tests ops (s.source hdr.source).protectedSet
    have inside (k : Nat) (hk : k ∈ s.spanEntries ops (s.source hdr.source).protectedSet .written) :
        ops.firstColumn.toNat + k < 256 := by
      have := s.spanEntries_written_inMap ops (s.source hdr.source).protectedSet row _ (List.mem_map_of_mem hk)
      simp only [CellRef.inMap, Bool.and_eq_true, decide_eq_true_eq] at this
      exact Nat.lt_of_lt_of_le this.1 narrow
    have countedAs {e : SpanEntry} {p : Nat → Bool}
        (test : ∀ k, (s.spanEntry ops (s.source hdr.source).protectedSet k == e) = p k) :
        (s.spanEntries ops (s.source hdr.source).protectedSet e).length = (List.range ops.count.toNat).countP p :=
      (s.spanEntries_length ops _ e).trans (congrArg (fun q => List.countP q _) (funext test))
    have outside := countedAs fun k => (tests k).1
    have kept := countedAs fun k => (tests k).2.1
    have shielded := countedAs fun k => (tests k).2.2.1
    have written := countedAs fun k => (tests k).2.2.2
    have total := s.spanEntries_total ops (s.source hdr.source).protectedSet
    rw [outside, kept, shielded, written] at total
    refine ⟨fun x hx => ?cells, ?answered, ?total, ?occasions, by simp, by simp, sameTables_settle (by simp),
      heads_settle (by simp),
      sameEvents_settle (by simp), sameNotices_settle (by simp), sameDrive_settle (by simp), sameRest_settle (by simp)⟩
    case cells =>
      refine (cell_modCells_span (s := s) map (by simp) (nodup_filter List.nodup_range _) inside (by simp; rfl) hx).trans ?_
      refine ite_congr (propext (and_congr_right fun _ => exists_congr fun k => ?_)) (fun _ => program (s.cell x)) fun _ => rfl
      rw [List.mem_filter, List.mem_range, (tests k).2.2.2, and_assoc]
      exact and_congr_right fun _ => and_comm
    case answered =>
      exact (answered_settle (by simp) (by simp) rfl rfl rfl).imp_right fun reply => reply.trans
        (congrArg (fun results => some (Reply.mk hdr.seq 0x22 .ok results))
          (congr (congr (congrArg Results.spanWrite written) shielded) outside))
    case total => exact total
    case occasions =>
      have passed : (if (s.spanEntries ops (s.source hdr.source).protectedSet .written).length = 0 then []
          else s.kept [.pass none]) = if (List.range ops.count.toNat).countP (fun k => s.entryInside ops k &&
            !ops.pattern.getLsbD k && !s.entryShielded ops (s.source hdr.source).protectedSet k) = 0 then []
          else [.pass none] := by
        rw [written, State.kept_of_loaded loaded]
      rw [settle_occasions, State.answer_occasions, State.withOccasions_occasions]
      exact congrArg (s.occasions ++ ·) passed

end Sys2Proof.Machine

/-! ### Fault entry (R84, R97, R99, R112, R114, R131 to R135) -/

namespace Sys2Proof.Machine

variable {s : State}

/-! #### One head -/

/-- An occurrence reaches the pending set as it stood, whatever stands in the reply slot (R170). -/
theorem Outbound.raise_events_withReply (o : Outbound) (v : Option Reply) (cls : EventClass) (d : Details) :
    ({ o with replySlot := v }.raise cls d).events = (o.raise cls d).events := by
  simp only [Outbound.raise]
  split
  · rfl
  · split <;> rfl

/-- Everything that the fault entry of one head does, its timers and the like already changed or not (R131, R133). -/
theorem faultEntered_settle {h : Head} {hd : HeadRecord} {f : HeadRecord → HeadRecord} (cause : FaultCause)
    (issue : Option Byte) (code : Byte) (record : (f (s.head h)).faulted cause issue code = hd.faulted cause issue code)
    (flag : (f (s.head h)).haltOutstanding = hd.haltOutstanding)
    (owed : (f (s.head h)).holdReplyOwed = hd.holdReplyOwed) :
    FaultEntered h cause issue code hd s (settle ((s.modHead h f).enterFault h cause issue code)) := by
  rw [State.enterFault_eq]
  simp only [State.faultAround, State.head_modHead_same, flag, owed]
  refine ⟨by simp [record], sameOtherHeads_settle (by simp +contextual), ?frames, by simp; rfl, by simp; rfl, by simp,
    ?reply, ?events, ?hold,
    sameMap_settle (by simp), sameTables_settle (by simp), sameNotices_settle (by simp), sameRest_settle (by simp)⟩
  case frames =>
    rw [settle_driveFrames, ← driveFrames_halted]
    exact driveFrames_of_drive (by simp [State.driveHalted])
  case reply =>
    rw [settle_replySlot]
    simp
    rfl
  case events =>
    rw [settle_eventContents, State.eventContents, State.eventsWith]
    exact congrArg _ (Outbound.raise_events_withReply s.out _ _ _)
  case hold =>
    rw [settle_lineHold, State.lineHoldLevel_iff]
    exact .inr (.inl ⟨h, by simp [HeadRecord.faulted]⟩)

/-- The fault entry of a head as it stands. -/
theorem faultEntered_enterFault {h : Head} (cause : FaultCause) (issue : Option Byte) (code : Byte) :
    FaultEntered h cause issue code (s.head h) s (settle (s.enterFault h cause issue code)) := by
  have same : s.modHead h id = s := State.modHead_self s h id rfl
  have entered := faultEntered_settle (s := s) (h := h) (f := id) cause issue code rfl rfl rfl
  rwa [same] at entered

/-- A head's record after a further fault (R132). -/
def HeadRecord.faultedAgain (hd : HeadRecord) : HeadRecord := { hd with furtherFaults := min 15 (hd.furtherFaults + 1) }

/-- A fault handed to a head in FAULT (R132). -/
theorem State.handFault_fault {h : Head} (fault : (s.head h).state = .fault) (cause : FaultCause) (issue : Option Byte)
    (code : Byte) : s.handFault h cause issue code = s.modHead h HeadRecord.faultedAgain := by
  rw [State.handFault, fault]
  rfl

/-- A fault handed to a head in OFF (R134). -/
theorem State.handFault_off {h : Head} (off : (s.head h).state = .off) (cause : FaultCause) (issue : Option Byte)
    (code : Byte) : s.handFault h cause issue code = s := by
  rw [State.handFault, off]

/-- Settles O24: by the code and the state of the head. -/
theorem driveFaultFaultsTheHead : Obligations.DriveFaultFaultsTheHead := by
  intro h issue code s runs
  refine ⟨fun coded takes => ⟨_, act_runs s runs, ?entry⟩, fun coded fault => ⟨_, act_runs s runs, ?further⟩,
    fun coded off => ⟨_, act_runs s runs, ?stale⟩, fun zero => ?malformed⟩
  case entry =>
    have live : (s.head h).state ≠ .off := by obtain hs | hs | hs := takes <;> rw [hs] <;> nofun
    rw [driveFaultEffect, if_neg coded, if_neg live, State.handFault_takes s takes]
    exact faultEntered_enterFault .driveFault (some issue) code
  case further =>
    rw [driveFaultEffect, if_neg coded, if_neg (by rw [fault]; nofun), State.handFault_fault fault]
    exact ⟨by simp [HeadRecord.faultedAgain], sameOtherHeads_settle (by simp +contextual),
      sameAdmission_settle (by simp), sameMap_settle (by simp), sameTables_settle (by simp),
      sameEvents_settle (by simp), sameNotices_settle (by simp), sameManagement_settle (by simp),
      sameDrive_settle (by simp), sameRest_settle (by simp)⟩
  case stale =>
    rw [driveFaultEffect, if_neg coded, if_pos off, State.stale]
    exact ⟨eventContents_raise (by simp), heads_settle (by simp), sameAdmission_settle (by simp),
      sameMap_settle (by simp), sameTables_settle (by simp), sameNotices_settle (by simp),
      sameManagement_settle (by simp), sameDrive_settle (by simp), sameRest_settle (by simp)⟩
  case malformed =>
    refine (act_runs s runs).trans (Eq.trans ?_ (act_runs s runs).symm)
    rw [driveFaultEffect, if_pos zero]
    rfl

/-- Settles O25: an expiry stops its timer, which the fault entry does in any case. -/
theorem timerExpiryFaultsTheHead : Obligations.TimerExpiryFaultsTheHead := by
  intro h r s runs takes oldest
  have issue : (s.head h).oldestIssue = some r.issue := by rw [HeadRecord.oldestIssue, oldest]; rfl
  refine ⟨fun running => ⟨_, act_runs s runs, ?silent⟩, fun running => ⟨_, act_runs s runs, ?overdue⟩⟩
  case silent =>
    have expired : statusGapExpiryEffect h s =
        (s.modHead h fun hd => { hd with gapTimer := .stopped }).enterFault h .driveSilent (some r.issue) 0 := by
      rw [statusGapExpiryEffect]
      split
      · next stopped => exact absurd stopped running
      · rw [issue, State.handFault_takes _ (by simpa using takes)]
    rw [expired]
    exact faultEntered_settle .driveSilent (some r.issue) 0 rfl rfl rfl
  case overdue =>
    rw [overdueExpiryEffect, if_pos running, issue, State.handFault_takes _ (by simpa using takes)]
    exact faultEntered_settle .overdue (some r.issue) 0 rfl rfl rfl

end Sys2Proof.Machine

/-! ### MACHINE STOP (R120, R131 to R135) -/

namespace Sys2Proof.Machine

variable {s : State}

/-! #### The fault entries of several heads, one after another -/

/-- A head takes a fault as a fault entry, as the machine tests it (R131). -/
def HeadRecord.takes (hd : HeadRecord) : Bool := hd.state == .ready || hd.state == .cutting || hd.state == .held

theorem HeadRecord.takes_iff (hd : HeadRecord) : hd.takes = true ↔ hd.TakesFaults := by
  simp [HeadRecord.takes, or_assoc]

/-- The occurrence of HEAD_FAULT that MACHINE STOP brings a head (R134). -/
def State.stopRaised (s : State) (o : Outbound) (h : Head) : Outbound :=
  o.raise (.ofHead .headFault h) (.headFault .machineStop (s.head h).oldestIssue 0)

/-- A head's record brings its HALT to the drive transmit queue (R89). -/
def State.haltsNow (s : State) (h : Head) : Bool := !(s.head h).haltOutstanding && !s.drive.queue.contains (.halt h)

/-- What the MACHINE STOP fault entries of some heads do beside their records (R52, R89, R127, R133, R134). -/
def State.stoppedAround (s : State) (l : List Head) : State :=
  (((s.withDrive { s.drive with queue := s.drive.queue ++ (l.filter s.haltsNow).map .halt }).withWaitList
    (s.waitList.filter fun e => !l.contains e.head)).withOccasions
    (s.occasions ++ s.kept ((l.filter s.waits).map fun h => .pass (some h)))).withOut
    { l.foldl s.stopRaised s.out with
      replySlot := if l.any fun h => (s.head h).holdReplyOwed
        then s.replyWith .faulted (.holdFaulted .machineStop) else s.out.replySlot }

/-- A head's record after MACHINE STOP (R131, R132, R134). -/
def HeadRecord.stopped (hd : HeadRecord) : HeadRecord :=
  match hd.state with
  | .off => hd
  | .fault => hd.faultedAgain
  | .ready | .cutting | .held => hd.faulted .machineStop hd.oldestIssue 0

theorem State.kept_nil (s : State) : s.kept [] = [] := by
  rw [State.kept]
  split <;> rfl

/-- With no head nothing is done. -/
theorem State.stoppedAround_nil (s : State) : s.stoppedAround [] = s := by
  have all : s.waitList.filter (fun e => !([] : List Head).contains e.head) = s.waitList := List.filter_eq_self.mpr fun _ _ => rfl
  rw [State.stoppedAround, all, List.filter_nil, List.filter_nil, List.map_nil, List.map_nil, List.append_nil,
    State.kept_nil, List.append_nil]
  rfl

/-- An occurrence and the reply slot, in either order. -/
theorem Outbound.raise_withReply (o : Outbound) (v : Option Reply) (cls : EventClass) (d : Details) :
    { o with replySlot := v }.raise cls d = { o.raise cls d with replySlot := v } := by
  simp only [Outbound.raise]
  split
  · rfl
  · split <;> rfl

theorem foldl_stopRaised_withReply (s : State) (l : List Head) (o : Outbound) (v : Option Reply) :
    l.foldl s.stopRaised { o with replySlot := v } = { l.foldl s.stopRaised o with replySlot := v } := by
  induction l generalizing o with
  | nil => rfl
  | cons h l ih =>
    rw [List.foldl_cons, List.foldl_cons, ← ih, State.stopRaised, Outbound.raise_withReply]
    rfl

/-- Occurrences leave the queued notices and the class enables. -/
theorem foldl_stopRaised_rest (s : State) (l : List Head) (o : Outbound) :
    (l.foldl s.stopRaised o).notices = o.notices ∧ (l.foldl s.stopRaised o).enables = o.enables := by
  induction l generalizing o with
  | nil => exact ⟨rfl, rfl⟩
  | cons h l ih =>
    rw [List.foldl_cons]
    exact ⟨(ih _).1.trans (Outbound.raise_notices ..), (ih _).2.trans (Outbound.raise_enables ..)⟩

/-- The same REPLY twice is that REPLY. -/
theorem State.replyWith_again {u : State} {status : Status} {results : Results} (mgmt : u.mgmt = s.mgmt)
    (slot : u.out.replySlot = s.replyWith status results ∨ u.out.replySlot = s.out.replySlot) :
    u.replyWith status results = s.replyWith status results := by
  cases held : s.mgmt.slot with
  | none =>
    simp only [State.replyWith, mgmt, held] at slot ⊢
    exact slot.elim id id
  | some c =>
    cases hh : c.header? <;> cases hc : c.code?
    case some.some => simp only [State.replyWith, mgmt, held, hh, hc]
    all_goals
      simp only [State.replyWith, mgmt, held, hh, hc] at slot ⊢
      exact slot.elim id id

/-- Two states that agree in every field are one. -/
theorem State.eq_of_fields {a b : State} (pending : a.pending = b.pending) (arriving : a.arriving = b.arriving)
    (receivers : a.receivers = b.receivers) (pins : a.pins = b.pins) (block : a.block = b.block)
      (cells : a.cells = b.cells)
    (grades : a.grades = b.grades) (windows : a.windows = b.windows) (heads : a.heads = b.heads)
    (waitList : a.waitList = b.waitList) (occasions : a.occasions = b.occasions) (sources : a.sources = b.sources)
    (mgmt : a.mgmt = b.mgmt) (counters : a.counters = b.counters) (out : a.out = b.out) (drive : a.drive = b.drive)
    (fresh : a.fresh = b.fresh) : a = b := by
  cases a
  cases b
  simp_all

section
variable {u : State} {k l : List Head} {w : Vector HeadRecord 4}

/-- The entries of some heads and then of others are the entries of all of them. -/
theorem State.stoppedAround_append (hu : u = (s.stoppedAround k).withHeads w) (heads : ∀ g ∈ l, u.head g = s.head g)
    (apart : ∀ g ∈ l, g ∉ k) (v : Vector HeadRecord 4) :
    (u.stoppedAround l).withHeads v = (s.stoppedAround (k ++ l)).withHeads v := by
  have drive : u.drive.queue = s.drive.queue ++ (k.filter s.haltsNow).map .halt := by simp [hu, State.stoppedAround]
  have waitList : u.waitList = s.waitList.filter fun e => !k.contains e.head := by simp [hu, State.stoppedAround]
  have halts : l.filter u.haltsNow = l.filter s.haltsNow := by
    refine List.filter_congr fun g hg => ?_
    have other : DriveFrame.halt g ∉ (k.filter s.haltsNow).map DriveFrame.halt := fun hm => by
      obtain ⟨h, hh, e⟩ := List.mem_map.mp hm
      cases e
      exact apart g hg (List.mem_filter.mp hh).1
    have queued : u.drive.queue.contains (.halt g) = s.drive.queue.contains (.halt g) := by
      rw [drive, Bool.eq_iff_iff, List.contains_iff_mem, List.contains_iff_mem, List.mem_append, or_iff_left other]
    rw [State.haltsNow, State.haltsNow, heads g hg, queued]
  have waits : l.filter u.waits = l.filter s.waits := by
    refine List.filter_congr fun g hg => ?_
    rw [Bool.eq_iff_iff, State.waits_iff, State.waits_iff, waitList]
    constructor
    · exact fun ⟨e, he, eq⟩ => ⟨e, (List.mem_filter.mp he).1, eq⟩
    · rintro ⟨e, he, rfl⟩
      exact ⟨e, List.mem_filter.mpr ⟨he, by simpa using apart _ hg⟩, rfl⟩
  have raised (o : Outbound) : l.foldl u.stopRaised o = l.foldl s.stopRaised o :=
    foldl_congr_of_mem (fun o g hg => by rw [State.stopRaised, State.stopRaised, heads g hg]) o
  have owed : (l.any fun h => (u.head h).holdReplyOwed) = l.any fun h => (s.head h).holdReplyOwed := by
    rw [Bool.eq_iff_iff, List.any_eq_true, List.any_eq_true]
    exact exists_congr fun g => and_congr_right fun hg => by rw [heads g hg]
  have out : u.out = { k.foldl s.stopRaised s.out with
      replySlot := if k.any fun h => (s.head h).holdReplyOwed
        then s.replyWith .faulted (.holdFaulted .machineStop) else s.out.replySlot } := by simp [hu,
        State.stoppedAround]
  have occasions : u.occasions = s.occasions ++ s.kept ((k.filter s.waits).map fun h => .pass (some h)) := by
    simp [hu, State.stoppedAround]
  have kept (o : List Occasion) : u.kept o = s.kept o := by simp [hu, State.stoppedAround, State.kept]
  refine State.eq_of_fields ?_ ?_ ?_ ?_ ?_ ?_ ?_ ?_ ?_ ?waitList ?occasions ?_ ?_ ?_ ?out ?drive ?_
  case waitList =>
    show u.waitList.filter (fun e => !l.contains e.head) = s.waitList.filter fun e => !(k ++ l).contains e.head
    rw [waitList, List.filter_filter]
    exact List.filter_congr fun e _ => by rw [List.contains_append, Bool.not_or, Bool.and_comm]
  case occasions =>
    show u.occasions ++ u.kept ((l.filter u.waits).map _) = s.occasions ++ s.kept (((k ++ l).filter s.waits).map _)
    rw [occasions, kept, waits, List.filter_append, List.map_append, State.kept_append, List.append_assoc]
  case out =>
    have slot : u.out.replySlot = s.replyWith .faulted (.holdFaulted .machineStop) ∨
        u.out.replySlot = s.out.replySlot := by
      rw [out]
      split
      · exact .inl rfl
      · exact .inr rfl
    have reply : u.replyWith .faulted (.holdFaulted .machineStop) = s.replyWith .faulted (.holdFaulted .machineStop) :=
      State.replyWith_again (by simp [hu, State.stoppedAround]) slot
    show ({ l.foldl u.stopRaised u.out with
      replySlot := if l.any fun h => (u.head h).holdReplyOwed
        then u.replyWith .faulted (.holdFaulted .machineStop) else u.out.replySlot } : Outbound) =
      { (k ++ l).foldl s.stopRaised s.out with
        replySlot := if (k ++ l).any fun h => (s.head h).holdReplyOwed
          then s.replyWith .faulted (.holdFaulted .machineStop) else s.out.replySlot }
    rw [raised, owed, reply, out, foldl_stopRaised_withReply, List.foldl_append, List.any_append]
    cases k.any fun h => (s.head h).holdReplyOwed <;> cases l.any fun h => (s.head h).holdReplyOwed <;> rfl
  case drive =>
    show DrivePort.mk (u.drive.queue ++ _) u.drive.tx = DrivePort.mk (s.drive.queue ++ _) s.drive.tx
    rw [halts, drive, List.filter_append, List.map_append, List.append_assoc]
    simp [hu, State.stoppedAround]
  all_goals simp [hu, State.stoppedAround]

end

/-- One head that takes the fault (R134). -/
theorem State.stop_takes {h : Head} (takes : (s.head h).takes = true) :
    ∃ w, s.handFault h .machineStop (s.head h).oldestIssue 0 = (s.stoppedAround [h]).withHeads w ∧
      ∀ g : Head, w.get g = if g = h then (s.head g).stopped else s.head g := by
  have takes := (s.head h).takes_iff.mp takes
  rw [State.handFault_takes s takes]
  refine ⟨(s.enterFault h .machineStop (s.head h).oldestIssue 0).heads, ?entered, fun g => ?heads⟩
  case heads =>
    refine (s.enterFault_head h g .machineStop (s.head h).oldestIssue 0).trans ?_
    split
    · next e =>
      subst e
      rw [HeadRecord.stopped]
      obtain hs | hs | hs := takes <;> rw [hs]
    · rfl
  case entered =>
    rw [State.enterFault_eq]
    refine State.eq_of_fields ?_ ?_ ?_ ?_ ?_ ?_ ?_ ?_ rfl ?waitList ?occasions ?_ ?_ ?_ ?out ?drive ?_
    case waitList =>
      simp only [State.modHead_waitList, State.raise_waitList, State.withOut_waitList, State.withOccasions_waitList,
        State.withWaitList_waitList]
      exact List.filter_congr fun e _ => by simp [bne, Bool.beq_eq_decide_eq]
    case occasions =>
      have passed := passAfterWait_append s h []
      rw [List.filter_nil, List.map_nil, State.kept_nil, List.append_nil] at passed
      show s.occasions ++ s.passAfterWait h = s.occasions ++ s.kept (([h].filter s.waits).map _)
      rw [passed]
    case out =>
      refine (Outbound.raise_withReply s.out _ _ _).trans ?_
      show _ = ({ s.stopRaised s.out h with
        replySlot := if [h].any fun h => (s.head h).holdReplyOwed
          then s.replyWith .faulted (.holdFaulted .machineStop) else s.out.replySlot } : Outbound)
      rw [List.any_cons, List.any_nil, Bool.or_false]
      rfl
    case drive =>
      show s.driveHalted h (s.head h).haltOutstanding = { s.drive with
        queue := s.drive.queue ++ ([h].filter s.haltsNow).map .halt }
      rw [State.driveHalted, List.filter_cons, State.haltsNow, ← Bool.not_or]
      cases (s.head h).haltOutstanding || s.drive.queue.contains (.halt h) with
      | true => exact congrArg (DrivePort.mk · s.drive.tx) (List.append_nil _).symm
      | false => rfl
    all_goals simp [State.stoppedAround]

/-- One head, in any state (R134). -/
theorem State.stop_one (s : State) (h : Head) :
    ∃ w, s.handFault h .machineStop (s.head h).oldestIssue 0 =
      (s.stoppedAround (if (s.head h).takes then [h] else [])).withHeads w ∧
      ∀ g : Head, w.get g = if g = h then (s.head g).stopped else s.head g := by
  cases state : (s.head h).state with
  | off =>
    have no : (s.head h).takes = false := by rw [HeadRecord.takes, state]; rfl
    refine ⟨s.heads, ?_, fun g => ?_⟩
    · rw [no, State.handFault_off state, if_neg Bool.false_ne_true, State.stoppedAround_nil]
      rfl
    · split
      · next e => subst e; rw [HeadRecord.stopped, state]; rfl
      · rfl
  | fault =>
    have no : (s.head h).takes = false := by rw [HeadRecord.takes, state]; rfl
    refine ⟨(s.modHead h HeadRecord.faultedAgain).heads, ?_, fun g => ?_⟩
    · rw [no, State.handFault_fault state, if_neg Bool.false_ne_true, State.stoppedAround_nil]
      rfl
    · refine (State.head_modHead ..).trans ?_
      split
      · next e => subst e; rw [HeadRecord.stopped, state]
      · rfl
  | ready | cutting | held =>
    have yes : (s.head h).takes = true := by rw [HeadRecord.takes, state]; rfl
    rw [yes, if_pos rfl]
    exact State.stop_takes yes

/-- What MACHINE STOP does to one head after another (R134). -/
theorem foldl_stop (l : List Head) (once : l.Nodup) (s : State) :
    ∃ v, l.foldl (fun s h => s.handFault h .machineStop (s.head h).oldestIssue 0) s =
      (s.stoppedAround (l.filter fun h => (s.head h).takes)).withHeads v ∧
      ∀ g : Head, v.get g = if g ∈ l then (s.head g).stopped else s.head g := by
  induction l generalizing s with
  | nil =>
    refine ⟨s.heads, ?_, fun g => rfl⟩
    rw [List.filter_nil, State.stoppedAround_nil]
    rfl
  | cons h l ih =>
    obtain ⟨fresh, once⟩ := List.nodup_cons.mp once
    obtain ⟨w, entered, records⟩ := s.stop_one h
    rw [List.foldl_cons]
    generalize s.handFault h .machineStop (s.head h).oldestIssue 0 = u at entered
    have heads (g : Head) : u.head g = if g = h then (s.head g).stopped else s.head g := by rw [entered]; exact records g
    have others (g : Head) (hg : g ∈ l) : u.head g = s.head g :=
      (heads g).trans (if_neg fun e : g = h => fresh (e ▸ hg))
    have takers : l.filter (fun g => (u.head g).takes) = l.filter fun g => (s.head g).takes :=
      List.filter_congr fun g hg => by rw [others g hg]
    obtain ⟨v, stopped, after⟩ := ih once u
    refine ⟨v, ?_, fun g => (after g).trans ?_⟩
    · have all : (h :: l).filter (fun g => (s.head g).takes) =
          (if (s.head h).takes then [h] else []) ++ l.filter fun g => (s.head g).takes := by
        rw [List.filter_cons]
        split <;> rfl
      rw [stopped, takers, all]
      refine State.stoppedAround_append entered (fun g hg => others g (List.mem_filter.mp hg).1) (fun g hg => ?_) v
      split
      · exact fun e => fresh (List.mem_singleton.mp e ▸ (List.mem_filter.mp hg).1)
      · exact List.not_mem_nil
    · rw [heads]
      by_cases here : g = h
      · subst here
        rw [if_neg fresh, if_pos rfl, if_pos List.mem_cons_self]
      · simp [here]

/-- Settles O26: the assertion is the fault entry of every head that takes it, in head-number order, and then the edge. -/
theorem machineStopFaultsEveryHead : Obligations.MachineStopFaultsEveryHead := by
  refine ⟨fun s runs clear => ⟨_, takeStop_runs runs, ?asserted⟩, fun s runs stop => ⟨_, takeStop_runs runs,
    ?deasserted⟩⟩
  case asserted =>
    have every (g : Head) : g ∈ allHeads := by decide +revert
    obtain ⟨v, stopped, records⟩ := foldl_stop allHeads (by decide) (s.setStop true)
    have takers : (allHeads.filter fun h => ((s.setStop true).head h).takes) = s.faultTakers := rfl
    have record (h : Head) : v.get h = (s.head h).stopped := (records h).trans (if_pos (every h))
    rw [machineStopAssertedEffect, if_neg (by simp [clear]), State.stopHeads, stopped, takers, State.recordEdge]
    have head (h : Head) : (settle (((s.setStop true).stoppedAround s.faultTakers).withHeads v |>.raise
        (.ofPart .machineStop) (.machineStop true))).head h = (s.head h).stopped := (settle_head _ h).trans (record h)
    refine ⟨fun h => ⟨fun off => ?off, fun fault => ?fault, fun takes => ?takes⟩, by simp [State.stoppedAround,
      State.setStop],
      ?hold, by simp [State.stoppedAround, State.setStop]; exact runs, ?frames,
      by simp [State.stoppedAround, State.setStop], by simp [State.stoppedAround, State.setStop]; rfl, ?reply, ?events,
      sameMap_settle ⟨?_, ?_⟩, sameTables_settle ⟨?_, ?_, ?_⟩, sameNotices_settle ?_, ?_, ?_, ?_, ?_⟩
    case off => rw [head, HeadRecord.stopped, off]
    case fault => rw [head, HeadRecord.stopped, fault, HeadRecord.faultedAgain]
    case takes =>
      rw [head, HeadRecord.stopped]
      obtain hs | hs | hs := takes <;> rw [hs] <;> rfl
    case hold =>
      rw [settle_lineHold, State.lineHoldLevel_iff]
      exact .inl (by simp [State.stoppedAround, State.setStop])
    case frames =>
      rw [settle_driveFrames]
      exact (List.append_assoc ..).symm
    case reply =>
      rw [settle_replySlot]
      simp [State.stoppedAround, State.setStop]
      rfl
    case events =>
      rw [settle_eventContents, State.eventContents]
      exact congrArg _ (Outbound.raise_events_withReply _ _ _ _)
    all_goals simp [State.stoppedAround, State.setStop, foldl_stopRaised_rest]
  case deasserted =>
    rw [machineStopDeassertedEffect, if_pos stop, State.recordEdge, State.setStop]
    refine ⟨heads_settle (by simp), by simp, by simp; exact runs, ?hold, eventContents_raise (by simp),
      sameAdmission_settle (by simp), sameMap_settle (by simp),
      sameTables_settle (by simp), sameNotices_settle (by simp), sameManagement_settle (by simp),
      sameDrive_settle (by simp), by simp, by simp, by simp⟩
    case hold =>
      rw [settle_lineHold, State.lineHoldLevel_iff]
      have runs : s.pins.resetLow = false := runs
      simp [runs]

end Sys2Proof.Machine

/-! ### The blade monitor (R98, R103 to R113) -/

namespace Sys2Proof.Machine

variable {s : State}

/-! #### The overdue limit -/

/-- A quotient rounded up (00 Conventions). -/
theorem ceilDiv_spec {b : Nat} (a : Nat) (hb : 0 < b) : a ≤ ceilDiv a b * b ∧ ceilDiv a b * b < a + b := by
  have split := Nat.div_add_mod (a + b - 1) b
  have rest := Nat.mod_lt (a + b - 1) hb
  rw [ceilDiv, Nat.mul_comm]
  omega

/-- Settles O32: both quotients are rounded up. -/
theorem overdueLimitRoundsUp : Obligations.OverdueLimitRoundsUp := by
  intro ts r rated
  obtain ⟨low, high⟩ := ceilDiv_spec (1000 * (((r.stroke.finish.x.toNat : Int) - r.stroke.start.x.toNat).natAbs +
    ((r.stroke.finish.y.toNat : Int) - r.stroke.start.y.toNat).natAbs)) rated
  obtain ⟨above, below⟩ := ceilDiv_spec (b := 4) (nominalTime r * ts.factor) (by omega)
  refine ⟨_, _, nominalTime r, ceilDiv (nominalTime r * ts.factor) 4, ?_, ?_, ?_, ?_, ?_, ?_, low, high, ?_, ?_, rfl⟩
  all_goals omega

/-! #### Checked samples -/

/-- A checked sample as the machine finds it (R103). -/
theorem HeadRecord.checkedRecord_iff {h : Head} {executing : Option Byte} {r : InFlight} :
    (s.head h).checkedRecord executing = some r ↔ s.Checked h executing r := by
  constructor
  · intro checked
    have takes := HeadRecord.checkedRecord_takes checked
    simp only [HeadRecord.checkedRecord] at checked
    split at checked
    case h_4 | h_5 | h_6 | h_7 => cases checked
    all_goals
      next r' rest n state list =>
        rw [Option.ite_none_right_eq_some] at checked
        obtain ⟨⟨number, flag, kind⟩, e⟩ := checked
        obtain rfl := Option.some.inj e
        exact ⟨takes, by rw [list]; rfl, by rw [number], flag, kind⟩
  · rintro ⟨takes, oldest, rfl, flag, kind⟩
    have list := eq_cons_of_head? oldest
    generalize (s.head h).inFlight.tail = rest at list
    obtain state | state | state := takes <;> simp [HeadRecord.checkedRecord, list, state, flag, kind]

theorem not_off_of_takes {hd : HeadRecord} (takes : hd.TakesFaults) : hd.state ≠ .off := by
  obtain state | state | state := takes <;> rw [state] <;> nofun

/-- A sign of life of a head that is not OFF (R98, R112). -/
theorem HeadRecord.signOfLife_live {hd : HeadRecord} (live : hd.state ≠ .off) :
    hd.signOfLife = { hd with gapTimer := hd.gapRestarted } := by
  rw [HeadRecord.signOfLife_eq, if_neg live]

/-- A STATUS frame that is a checked sample (R103, R111). -/
theorem statusEffect_checked {h : Head} {r : InFlight} {executing : Option Byte} (drag cycles ms : Nat)
    (checked : s.Checked h executing r) :
    statusEffect h executing drag cycles ms s = (s.modHead h HeadRecord.signOfLife).sample h r drag cycles ms := by
  rw [statusEffect, if_neg (not_off_of_takes checked.1)]
  simp only [HeadRecord.checkedRecord_iff.mpr checked]

/-- Settles O28: with no checked sample a STATUS frame is a sign of life alone. -/
theorem uncheckedStatusRestartsTimer : Obligations.UncheckedStatusRestartsTimer := by
  intro h executing drag cycles ms s runs unchecked
  have none : (s.head h).checkedRecord executing = none :=
    Option.eq_none_iff_forall_ne_some.mpr fun r e => unchecked r (HeadRecord.checkedRecord_iff.mp e)
  have effect : statusEffect h executing drag.toNat cycles.toNat ms.toNat s = s.modHead h HeadRecord.signOfLife := by
    rw [statusEffect]
    split
    · next off => exact (State.modHead_self s h _ (by rw [HeadRecord.signOfLife_eq, if_pos off])).symm
    · rw [none]
  refine ⟨_, act_runs s runs, ?_⟩
  rw [effect]
  exact ⟨by simp [HeadRecord.signOfLife_eq], sameOtherHeads_settle (by simp +contextual),
    sameAdmission_settle (by simp), sameMap_settle (by simp), sameTables_settle (by simp),
    sameEvents_settle (by simp), sameNotices_settle (by simp), sameManagement_settle (by simp),
    sameDrive_settle (by simp), sameRest_settle (by simp)⟩

/-! #### The cycle check -/

section
variable (s) (h : Head) (r : InFlight) (cycles ms : Nat)

/-- The stall run after the cycle check of a sample (R109). -/
def State.stallRunAfter : Nat := if s.ShortOf h r cycles ms then (s.head h).monitor.stallRun + 1 else 0

/-- A head's record after the cycle check, but for a fault (R109). -/
def HeadRecord.stallRunSet (run : Nat) (hd : HeadRecord) : HeadRecord :=
  { hd with monitor := { hd.monitor with stallRun := run } }

/-- The cycle check by the run that it leaves (R109, R110). -/
theorem State.cycleCheck_eq : s.cycleCheck h r cycles ms =
    if (s.head h).monitorSettings.stallDebounce ≤ s.stallRunAfter h r cycles ms then
      (s.modHead h (HeadRecord.stallRunSet (s.stallRunAfter h r cycles ms))).handFault h .bladeStall (some r.issue) 0
    else s.modHead h (HeadRecord.stallRunSet (s.stallRunAfter h r cycles ms)) := by
  have run : (if shortSample r.rate cycles ms (s.head h).monitorSettings.tolerance = true
      then (s.head h).monitor.stallRun + 1 else 0) = s.stallRunAfter h r cycles ms := by
    simp only [shortSample, decide_eq_true_eq, State.stallRunAfter]
  simp only [State.cycleCheck, run]
  rfl

end

/-- A sample that is not short of cycles sets the stall run to 0 (R109). -/
theorem State.cycleCheck_enough {h : Head} {r : InFlight} {cycles ms : Nat} (enough : ¬ s.ShortOf h r cycles ms)
    (debounce : 1 ≤ (s.head h).monitorSettings.stallDebounce) :
    s.cycleCheck h r cycles ms = s.modHead h (HeadRecord.stallRunSet 0) := by
  have run : s.stallRunAfter h r cycles ms = 0 := if_neg enough
  rw [State.cycleCheck_eq, run, if_neg (Nat.not_le.mpr debounce)]

/-! #### The drag check -/

section
variable {h : Head} {r : InFlight} {w : DragWindow} {drag cycles ms : Nat}

theorem dragClass_above (window : r.window = some w) (above : w.high < drag) : dragClass r drag = .above := by
  simp only [dragClass, window]
  exact if_pos above

theorem dragClass_below (window : r.window = some w) (inside : drag ≤ w.high) (below : drag < w.low)
    (foam : r.dominant ≠ some 0) : dragClass r drag = .below := by
  simp only [dragClass, window]
  exact (if_neg (Nat.not_lt.mpr inside)).trans (if_pos ⟨below, foam⟩)

theorem dragClass_within (window : r.window = some w) (inside : drag ≤ w.high)
    (fits : w.low ≤ drag ∨ r.dominant = some 0) : dragClass r drag = .within := by
  have no : ¬(drag < w.low ∧ r.dominant ≠ some 0) := fun ⟨below, foam⟩ =>
    fits.elim (fun low => absurd below (Nat.not_lt.mpr low)) foam
  simp only [dragClass, window]
  exact (if_neg (Nat.not_lt.mpr inside)).trans (if_neg no)

/-- A sample that stays below its debounce, and one within the window (R104 to R106). -/
theorem State.dragCheck_moves {cls : DragClass} (is : dragClass r drag = cls)
    (high : cls = .above → (s.head h).monitor.highRun + 1 < (s.head h).monitorSettings.highDebounce)
    (low : cls = .below → (s.head h).monitor.lowRun + 1 < (s.head h).monitorSettings.lowDebounce) :
    s.dragCheck h r drag = s.modHead h (HeadRecord.drag cls) := by
  simp only [State.dragCheck, is, State.head_modHead_same, HeadRecord.drag_eq]
  cases cls with
  | above => exact if_neg (Nat.not_le.mpr (high rfl))
  | below => exact if_neg (Nat.not_le.mpr (low rfl))
  | within => rfl

/-- A head's monitor one step further up the derate ladder (R105). -/
def HeadRecord.climbed (hd : HeadRecord) : HeadRecord :=
  { hd.drag .above with
    monitor := { hd.monitor with highRun := 0, lowRun := 0, derate := hd.monitor.derate + 1, cleanCount := 0 } }

/-- A high run at its debounce climbs the derate ladder (R105). -/
theorem State.dragCheck_climbs (is : dragClass r drag = .above)
    (reached : (s.head h).monitorSettings.highDebounce ≤ (s.head h).monitor.highRun + 1)
    (room : (s.head h).monitor.derate < 3) :
    s.dragCheck h r drag = (s.modHead h HeadRecord.climbed).raise (.ofHead .derateChange h)
      (.derateChange ((s.head h).monitor.derate + 1) r.issue) := by
  simp only [State.dragCheck, is, State.head_modHead_same]
  rw [if_pos (by rw [HeadRecord.drag_eq]; exact reached), State.highRunReached]
  simp only [State.head_modHead_same, State.changeDerate, State.modHead_modHead]
  rw [if_pos (by rw [HeadRecord.drag_eq]; exact room), HeadRecord.drag_eq]
  refine congrArg (State.raise _ _) (State.modHead_congr s h ?_)
  simp only [HeadRecord.climbed, HeadRecord.drag_eq]
  rfl

/-- A high run at its debounce at derate level 3 faults (R105). -/
theorem State.dragCheck_high (takes : (s.head h).TakesFaults) (is : dragClass r drag = .above)
    (reached : (s.head h).monitorSettings.highDebounce ≤ (s.head h).monitor.highRun + 1)
    (top : (s.head h).monitor.derate = 3) :
    s.dragCheck h r drag = (s.modHead h (HeadRecord.drag .above)).enterFault h .dragHigh (some r.issue) 0 := by
  simp only [State.dragCheck, is, State.head_modHead_same]
  rw [if_pos (by rw [HeadRecord.drag_eq]; exact reached), State.highRunReached]
  simp only [State.head_modHead_same]
  rw [if_neg (by rw [HeadRecord.drag_eq]; simp [Monitor.dragged, top]), State.handFault_takes]
  rw [State.head_modHead_same, HeadRecord.TakesFaults, HeadRecord.drag_state]
  exact takes

/-- A low run at its debounce faults (R106). -/
theorem State.dragCheck_low (takes : (s.head h).TakesFaults) (is : dragClass r drag = .below)
    (reached : (s.head h).monitorSettings.lowDebounce ≤ (s.head h).monitor.lowRun + 1) :
    s.dragCheck h r drag = (s.modHead h (HeadRecord.drag .below)).enterFault h .bladeLoss (some r.issue) 0 := by
  simp only [State.dragCheck, is, State.head_modHead_same]
  rw [if_pos (by rw [HeadRecord.drag_eq]; exact reached), State.handFault_takes]
  rw [State.head_modHead_same, HeadRecord.TakesFaults, HeadRecord.drag_state]
  exact takes

/-- A sample whose drag check faults the head ends there (R111). -/
theorem State.sample_fault {u : State} {cause : FaultCause} {issue : Option Byte}
    (dragged : s.dragCheck h r drag = u.enterFault h cause issue 0) :
    s.sample h r drag cycles ms = u.enterFault h cause issue 0 := by
  have fault : ((u.enterFault h cause issue 0).head h).state = .fault := by
    rw [State.enterFault_head, if_pos rfl]
    rfl
  simp only [State.sample, dragged]
  exact if_pos fault

/-- A sample that the drag check leaves live and that is not short of cycles (R109, R111). -/
theorem State.sample_enough {u : State} (dragged : s.dragCheck h r drag = u) (live : (u.head h).state ≠ .fault)
    (enough : ¬ u.ShortOf h r cycles ms) (debounce : 1 ≤ (u.head h).monitorSettings.stallDebounce) :
    s.sample h r drag cycles ms = u.modHead h (HeadRecord.stallRunSet 0) := by
  simp only [State.sample, dragged]
  exact (if_neg live).trans (State.cycleCheck_enough enough debounce)

end

end Sys2Proof.Machine

/-! ### The drag check and the cycle check of a STATUS frame (R103 to R111) -/

namespace Sys2Proof.Machine

variable {s : State}

/-- A head's record after a sign of life and a high sample (R98, R104). -/
theorem HeadRecord.drag_above_alive {hd : HeadRecord} {r : InFlight} (live : hd.state ≠ .off)
    (oldest : hd.inFlight.head? = some r) : hd.signOfLife.drag .above = { hd with
      gapTimer := hd.gapRestarted
      inFlight := { r with sawHigh := true } :: hd.inFlight.tail
      monitor := { hd.monitor with highRun := hd.monitor.highRun + 1, lowRun := 0 } } := by
  have list := eq_cons_of_head? oldest
  have marked : ({ hd with gapTimer := hd.gapRestarted } : HeadRecord).markSawHigh.inFlight =
      { r with sawHigh := true } :: hd.inFlight.tail := by
    generalize hd.inFlight.tail = rest at list
    simp [HeadRecord.markSawHigh, list]
  rw [HeadRecord.signOfLife_live live, HeadRecord.drag_eq, HeadRecord.draggedList, marked]
  rfl

/-- A head's record after a sign of life and a sample that is not high (R98, R104). -/
theorem HeadRecord.drag_alive {hd : HeadRecord} {cls : DragClass} (live : hd.state ≠ .off) (calm : cls ≠ .above) :
    hd.signOfLife.drag cls = { hd with gapTimer := hd.gapRestarted, monitor := hd.monitor.dragged cls } := by
  rw [HeadRecord.signOfLife_live live, HeadRecord.drag_eq]
  cases cls with
  | above => exact absurd rfl calm
  | below | within => rfl

/-- What a step up the derate ladder keeps (R105). -/
theorem HeadRecord.climbed_kept (hd : HeadRecord) :
    hd.climbed.state = hd.state ∧ hd.climbed.monitorSettings = hd.monitorSettings := by
  constructor
  · exact HeadRecord.drag_state .above hd
  · rw [HeadRecord.climbed, HeadRecord.drag_eq]

/-- A head's record after a sign of life and a step up the derate ladder (R98, R105). -/
theorem HeadRecord.climbed_alive {hd : HeadRecord} {r : InFlight} (live : hd.state ≠ .off)
    (oldest : hd.inFlight.head? = some r) : hd.signOfLife.climbed = { hd with
      gapTimer := hd.gapRestarted
      inFlight := { r with sawHigh := true } :: hd.inFlight.tail
      monitor := { hd.monitor with highRun := 0, lowRun := 0, derate := hd.monitor.derate + 1, cleanCount := 0 } } := by
  rw [HeadRecord.climbed, HeadRecord.drag_above_alive live oldest, HeadRecord.signOfLife_live live]

/-- A sample that moves the record of its head alone (R104, R109). -/
theorem statusEffect_moves {h : Head} {r : InFlight} {cls : DragClass} {drag cycles ms : Nat}
    (checked : s.Checked h (some r.issue) r) (is : dragClass r drag = cls)
    (high : cls = .above → (s.head h).monitor.highRun + 1 < (s.head h).monitorSettings.highDebounce)
    (low : cls = .below → (s.head h).monitor.lowRun + 1 < (s.head h).monitorSettings.lowDebounce)
    (enough : ¬ s.ShortOf h r cycles ms) (debounce : 1 ≤ (s.head h).monitorSettings.stallDebounce) :
    statusEffect h (some r.issue) drag cycles ms s =
      s.modHead h fun hd => (hd.signOfLife.drag cls).stallRunSet 0 := by
  have live := not_off_of_takes checked.1
  have notFault : (s.head h).state ≠ .fault := by
    obtain state | state | state := checked.1 <;> rw [state] <;> nofun
  have alive : (s.modHead h HeadRecord.signOfLife).head h = { s.head h with gapTimer := (s.head h).gapRestarted } := by
    rw [State.head_modHead_same, HeadRecord.signOfLife_live live]
  have dragged := State.dragCheck_moves (s := s.modHead h HeadRecord.signOfLife) (h := h) is
    (by rw [alive]; exact high) (by rw [alive]; exact low)
  have record : ((s.modHead h HeadRecord.signOfLife).modHead h (HeadRecord.drag cls)).head h =
      { s.head h with
        gapTimer := (s.head h).gapRestarted
        monitor := (s.head h).monitor.dragged cls
        inFlight := ({ s.head h with gapTimer := (s.head h).gapRestarted } : HeadRecord).draggedList cls } := by
    rw [State.head_modHead_same, alive, HeadRecord.drag_eq]
  rw [statusEffect_checked drag cycles ms checked,
    State.sample_enough dragged (by rw [record]; exact notFault) (by simp only [State.ShortOf, record]; exact enough)
      (by rw [record]; exact debounce), State.modHead_modHead, State.modHead_modHead]

/-- A sample that climbs the derate ladder (R105, R109). -/
theorem statusEffect_climbs {h : Head} {r : InFlight} {drag cycles ms : Nat}
    (checked : s.Checked h (some r.issue) r) (is : dragClass r drag = .above)
    (reached : (s.head h).monitorSettings.highDebounce ≤ (s.head h).monitor.highRun + 1)
    (room : (s.head h).monitor.derate < 3) (enough : ¬ s.ShortOf h r cycles ms)
    (debounce : 1 ≤ (s.head h).monitorSettings.stallDebounce) :
    statusEffect h (some r.issue) drag cycles ms s =
      (s.modHead h fun hd => (hd.signOfLife.climbed).stallRunSet 0).raise (.ofHead .derateChange h)
        (.derateChange ((s.head h).monitor.derate + 1) r.issue) := by
  have live := not_off_of_takes checked.1
  have notFault : (s.head h).state ≠ .fault := by
    obtain state | state | state := checked.1 <;> rw [state] <;> nofun
  have alive : (s.modHead h HeadRecord.signOfLife).head h = { s.head h with gapTimer := (s.head h).gapRestarted } := by
    rw [State.head_modHead_same, HeadRecord.signOfLife_live live]
  have dragged := State.dragCheck_climbs (s := s.modHead h HeadRecord.signOfLife)
    (h := h) is (by rw [alive]; exact reached)
    (by rw [alive]; exact room)
  have record : (((s.modHead h HeadRecord.signOfLife).modHead h HeadRecord.climbed).head h) = (s.head h).signOfLife.climbed := by
    rw [State.head_modHead_same, State.head_modHead_same]
  have kept := HeadRecord.climbed_kept (s.head h).signOfLife
  have settings : (s.head h).signOfLife.climbed.monitorSettings = (s.head h).monitorSettings := by
    rw [kept.2, HeadRecord.signOfLife_live live]
  have derate : (((s.modHead h HeadRecord.signOfLife).head h).monitor.derate) = (s.head h).monitor.derate := by rw [alive]
  rw [statusEffect_checked drag cycles ms checked, State.sample_enough dragged
    (by rw [State.head_raise, record, kept.1, HeadRecord.signOfLife_state]; exact notFault)
    (by rw [State.ShortOf, State.head_raise, record, settings]; exact enough)
    (by rw [State.head_raise, record, settings]; exact debounce),
    ← State.modHead_raise, State.modHead_modHead, State.modHead_modHead, derate]

/-- A sample that faults its head (R105, R106, R111). -/
theorem faultEntered_status {h : Head} {r : InFlight} {cls : DragClass} {cause : FaultCause} {drag cycles ms : Nat}
    (checked : s.Checked h (some r.issue) r)
    (dragged : (s.modHead h HeadRecord.signOfLife).dragCheck h r drag =
      ((s.modHead h HeadRecord.signOfLife).modHead h (HeadRecord.drag cls)).enterFault h cause (some r.issue) 0) :
    FaultEntered h cause (some r.issue) 0 ((s.head h).signOfLife.drag cls) s
      (settle (statusEffect h (some r.issue) drag cycles ms s)) := by
  rw [statusEffect_checked drag cycles ms checked, State.sample_fault dragged, State.modHead_modHead]
  exact faultEntered_settle cause (some r.issue) 0 rfl rfl rfl

/-- Settles O29: by the class of the sample and the run that it leaves. -/
theorem dragCheckMovesRunsAndLadder : Obligations.DragCheckMovesRunsAndLadder := by
  intro h r w g drag cycles ms s runs checked window dominant enough debounce
  have live := not_off_of_takes checked.1
  have oldest := checked.2.1
  have takes : ((s.modHead h HeadRecord.signOfLife).head h).TakesFaults := by
    rw [State.head_modHead_same, HeadRecord.TakesFaults, HeadRecord.signOfLife_state]
    exact checked.1
  have above := HeadRecord.drag_above_alive live oldest
  have calm {cls : DragClass} (hc : cls ≠ .above) := HeadRecord.drag_alive (cls := cls) live hc
  have foam (hg : g ≠ 0) : r.dominant ≠ some 0 := fun e => hg (Option.some.inj (dominant.symm.trans e))
  have alive : (s.modHead h HeadRecord.signOfLife).head h = { s.head h with gapTimer := (s.head h).gapRestarted } := by
    rw [State.head_modHead_same, HeadRecord.signOfLife_live live]
  refine ⟨_, act_runs s runs, fun hw low => ?high, fun hw reached room => ?climb, fun hw reached top => ?dragHigh,
    fun hw lw hg low => ?low, fun hw lw hg reached => ?loss, fun hw fits => ?within⟩
  case high =>
    rw [statusEffect_moves checked (dragClass_above window hw) (fun _ => low) nofun enough debounce]
    exact ⟨by simp [above, HeadRecord.stallRunSet], sameEvents_settle (by simp),
      sameOtherHeads_settle (by simp +contextual), sameAdmission_settle (by simp), sameMap_settle (by simp),
      sameTables_settle (by simp), sameNotices_settle (by simp), sameManagement_settle (by simp),
      sameDrive_settle (by simp), sameRest_settle (by simp)⟩
  case climb =>
    rw [statusEffect_climbs checked (dragClass_above window hw) reached room enough debounce]
    exact ⟨by simp [HeadRecord.climbed_alive live oldest, HeadRecord.stallRunSet], eventContents_raise (by simp),
      sameOtherHeads_settle (by simp +contextual), sameAdmission_settle (by simp), sameMap_settle (by simp),
      sameTables_settle (by simp), sameNotices_settle (by simp),
      sameManagement_settle (by simp), sameDrive_settle (by simp), sameRest_settle (by simp)⟩
  case dragHigh =>
    have entered := faultEntered_status (cycles := cycles.toNat) (ms := ms.toNat) checked
      (State.dragCheck_high takes (dragClass_above window hw) (by rw [alive]; exact reached) (by rw [alive]; exact top))
    rwa [above] at entered
  case low =>
    rw [statusEffect_moves checked (dragClass_below window hw lw (foam hg)) nofun (fun _ => low) enough debounce]
    exact ⟨by simp [calm, HeadRecord.stallRunSet, Monitor.dragged], sameEvents_settle (by simp),
      sameOtherHeads_settle (by simp +contextual), sameAdmission_settle (by simp),
      sameMap_settle (by simp), sameTables_settle (by simp), sameNotices_settle (by simp),
      sameManagement_settle (by simp), sameDrive_settle (by simp), sameRest_settle (by simp)⟩
  case loss =>
    have entered := faultEntered_status (cycles := cycles.toNat) (ms := ms.toNat) checked
      (State.dragCheck_low takes (dragClass_below window hw lw (foam hg)) (by rw [alive]; exact reached))
    rwa [calm (cls := .below) nofun] at entered
  case within =>
    have fits : w.low ≤ drag.toNat ∨ r.dominant = some 0 := fits.imp_right fun e => dominant.trans (congrArg some e)
    rw [statusEffect_moves checked (dragClass_within window hw fits) nofun nofun enough debounce]
    exact ⟨by simp [calm, HeadRecord.stallRunSet, Monitor.dragged], sameEvents_settle (by simp),
      sameOtherHeads_settle (by simp +contextual), sameAdmission_settle (by simp),
      sameMap_settle (by simp), sameTables_settle (by simp), sameNotices_settle (by simp),
      sameManagement_settle (by simp), sameDrive_settle (by simp), sameRest_settle (by simp)⟩

end Sys2Proof.Machine

/-! ### What waits, arrives and is being sent, around a command (R88, R165, R173, R174, R186) -/

namespace Sys2Proof.Machine

variable (s : State)

/-! #### The acts of the units -/

/-- The waiting commands, the signals on their way, the receivers and the frames on the two transmitters. -/
def State.flow : List Instr × List Signal × Receivers × Option PlacedFrame × Option DriveFrame :=
  (s.pending, s.arriving, s.receivers, s.out.tx, s.drive.tx)

theorem State.flow_same {t : State} (pending : t.pending = s.pending) (arriving : t.arriving = s.arriving)
    (receivers : t.receivers = s.receivers) (line : t.out.tx = s.out.tx) (drive : t.drive.tx = s.drive.tx) :
    t.flow = s.flow := by
  rw [State.flow, State.flow, pending, arriving, receivers, line, drive]

@[simp] theorem State.flow_raise (cls : EventClass)
    (d : Details) : (s.raise cls d).flow = s.flow := by simp [State.flow]

@[simp] theorem State.flow_answer (status : Status)
    (results : Results) : (s.answer status results).flow = s.flow := by simp [State.flow]

@[simp] theorem State.flow_refuse (status : Status) : (s.refuse status).flow = s.flow := s.flow_answer status .none

@[simp] theorem State.flow_raiseOccasion (o : Occasion) : (s.raiseOccasion o).flow = s.flow := by simp [State.flow]

@[simp] theorem State.flow_modHead (h : Head) (f : HeadRecord →
    HeadRecord) : (s.modHead h f).flow = s.flow := by simp [State.flow]

@[simp] theorem State.flow_modCells (f : Cell → Cell)
    (refs : List CellRef) : (s.modCells f refs).flow = s.flow := by simp [State.flow]

@[simp] theorem State.flow_withMgmt (v : Management) : (s.withMgmt v).flow = s.flow := rfl
@[simp] theorem State.flow_withBlock (v : BlockRecord) : (s.withBlock v).flow = s.flow := rfl
@[simp] theorem State.flow_withCells (v : CutMap) : (s.withCells v).flow = s.flow := rfl
@[simp] theorem State.flow_withOccasions (v : List Occasion) : (s.withOccasions v).flow = s.flow := rfl
@[simp] theorem State.flow_withPins (v : Pins) : (s.withPins v).flow = s.flow := rfl
@[simp] theorem State.flow_withGrades (v : Vector GradeEntry 16) : (s.withGrades v).flow = s.flow := rfl
@[simp] theorem State.flow_withWindows (v : Vector TagWindow 4) : (s.withWindows v).flow = s.flow := rfl
@[simp] theorem State.flow_withSources (v : Vector SourceRecord 4) : (s.withSources v).flow = s.flow := rfl
@[simp] theorem State.flow_withCounters (v : LinkCounters) : (s.withCounters v).flow = s.flow := rfl

@[simp] theorem State.flow_setSource (k : Source) (r : SourceRecord) : (s.setSource k r).flow = s.flow := rfl

@[simp] theorem State.flow_recordWait (h : Head)
    (fp : List CellRef) : (s.recordWait h fp).flow = s.flow := by simp [State.flow]

@[simp] theorem State.flow_flush (h : Head) : (s.flush h).flow = s.flow := by simp [State.flow]

@[simp] theorem State.flow_flushAll : s.flushAll.flow = s.flow := by simp [State.flushAll, allHeads]

@[simp] theorem State.flow_enterOff (h : Head) : (s.enterOff h).flow = s.flow := by
  rw [State.enterOff_eq]
  simp [State.flow]

@[simp] theorem State.flow_enterHeld (h : Head) (cause : HoldCause) : (s.enterHeld h cause).flow = s.flow := by
  rw [State.enterHeld_eq]
  simp [State.flow]

@[simp] theorem State.driveHalted_tx (h : Head)
    (outstanding : Bool) : (s.driveHalted h outstanding).tx = s.drive.tx := by
  rw [State.driveHalted]
  split <;> rfl

@[simp] theorem State.flow_requestHalt (h : Head) : (s.requestHalt h).flow = s.flow := by
  rw [State.requestHalt_eq]
  simp [State.flow]

@[simp] theorem State.flow_handFault (h : Head) (cause : FaultCause) (issue : Option Byte) (code : Byte) :
    (s.handFault h cause issue code).flow = s.flow := by
  rw [State.handFault]
  split
  · rfl
  · exact s.flow_modHead h _
  all_goals
    rw [State.enterFault_eq]
    simp [State.flow]

@[simp] theorem State.flow_takeComplete (h : Head) (r : InFlight) : (s.takeComplete h r).flow = s.flow := by
  have frames := (Quiet.takeComplete s h r).out.frame.1
  rw [State.takeComplete_eq] at frames ⊢
  exact s.flow_same (by simp) (by simp) (by simp) frames (by simp)

@[simp] theorem State.flow_takeHalted (h : Head) (r : InFlight) (k : Nat) (stop : Point) :
    (s.takeHalted h r k stop).flow = s.flow := by
  rw [State.takeHalted_eq]
  simp [State.flow]

@[simp] theorem State.flow_refuseStroke (h : Head) (q : QueuedStroke) (reason : RefusalReason) :
    (s.refuseStroke h q reason).flow = s.flow := by
  rw [State.refuseStroke_eq]
  simp [State.flow]

theorem State.flow_issueStroke {h : Head} (q : QueuedStroke) (rating : Rating) (fp : List CellRef)
    (queued : (s.head h).queue ≠ []) : (s.issueStroke h q rating fp).flow = s.flow := by
  have frames := (Quiet.issueStroke s q rating fp queued).out.frame.1
  rw [State.issueStroke_eq _ _ _ _ _ queued] at frames ⊢
  exact s.flow_same (by simp) (by simp) (by simp) frames (by simp)

@[simp] theorem State.flow_evaluate (h : Head) : (s.evaluate h).flow = s.flow := by
  rw [State.evaluate]
  cases hq : (s.head h).queue with
  | nil => rfl
  | cons q rest =>
    simp only
    split
    any_goals rfl
    · exact s.flow_recordWait ..
    · exact s.flow_recordWait ..
    · exact s.flow_refuseStroke ..
    · exact s.flow_issueStroke q _ _ (by simp [hq])

/-- A step kept along a list is kept by the whole of it. -/
theorem State.flow_foldl {α : Type} {f : State → α → State} (hf : ∀ u a, (f u a).flow = u.flow) (l : List α) :
    (l.foldl f s).flow = s.flow := by
  induction l generalizing s with
  | nil => rfl
  | cons a l ih => exact (ih (f s a)).trans (hf s a)

@[simp] theorem State.flow_hold (h : Head) (hard : Bool) : (s.hold h hard).flow = s.flow := by
  unfold State.hold
  split <;> simp

@[simp] theorem State.flow_dragCheck (h : Head) (r : InFlight) (drag : Nat) : (s.dragCheck h r drag).flow = s.flow := by
  simp only [State.dragCheck, State.highRunReached, State.changeDerate]
  split
  · split
    · split <;> simp
    · simp
  · split <;> simp
  · simp

@[simp] theorem State.flow_cycleCheck (h : Head) (r : InFlight) (cycles ms : Nat) :
    (s.cycleCheck h r cycles ms).flow = s.flow := by
  rw [State.cycleCheck_eq]
  split <;> simp

/-! #### The effects of the commands -/

/-- A MANAGE command that keeps them once it is taken keeps them. -/
theorem manageTo_flow {α : Type} (c : Instr) (hdr : Header) (ops : Operands α) {f : α → State → State}
    (hf : ∀ a u, (f a u).flow = u.flow) : (manageTo c hdr ops f s).flow = s.flow := by
  rw [manageTo]
  split
  · simp
  · cases ops with
    | wrongLength => simp
    | given a => simp [hf]

section
variable {s}

theorem loadBlockEffect_flow (ops : LoadBlockOps) : (loadBlockEffect ops s).flow = s.flow := by
  rw [loadBlockEffect]
  split
  · simp
  · split <;> simp [State.beginBlock]

theorem unloadBlockEffect_flow (ops : NoOps) : (unloadBlockEffect ops s).flow = s.flow := by
  rw [unloadBlockEffect]
  split
  · simp
  all_goals split <;> simp

theorem writeGradeEffect_flow (ops : WriteGradeOps) : (writeGradeEffect ops s).flow = s.flow := by
  rw [writeGradeEffect]
  split
  · split <;> simp
  · simp

theorem setNotifyWindowEffect_flow (ops : NotifyWindowOps) : (setNotifyWindowEffect ops s).flow = s.flow := by
  rw [setNotifyWindowEffect]
  split <;> simp

theorem setHeadEffect_flow (ops : SetHeadOps) : (setHeadEffect ops s).flow = s.flow := by
  simp only [setHeadEffect, State.writeSettings]
  split
  · simp
  · split <;> simp

theorem setPositionEffect_flow (ops : HeadPointOps) : (setPositionEffect ops s).flow = s.flow := by
  simp only [setPositionEffect]
  split
  · simp
  · split <;> simp

theorem holdHeadEffect_flow (ops : HoldHeadOps) : (holdHeadEffect ops s).flow = s.flow := by
  have owe (u : State) : (u.oweHold ops.head).flow = u.flow := by
    rw [State.oweHold]
    split <;> simp
  rw [holdHeadEffect]
  split <;> simp [owe]

theorem releaseHeadEffect_flow (ops : HeadOps) : (releaseHeadEffect ops s).flow = s.flow := by
  simp only [releaseHeadEffect]
  split <;> simp

theorem clearHeadEffect_flow (ops : HeadPointOps) : (clearHeadEffect ops s).flow = s.flow := by
  have resolved : ((s.resolveAll ops.head).modHead ops.head (HeadRecord.restore ops.point)).flow = s.flow := by
    rw [State.resolveAll_restore_eq]
    simp [State.flow]
  simp only [clearHeadEffect]
  split
  · simp
  · split <;> simp_all

theorem setMonitorEffect_flow (ops : SetMonitorOps) : (setMonitorEffect ops s).flow = s.flow := by
  rw [setMonitorEffect]
  split <;> simp

theorem setTimersEffect_flow (ops : SetTimersOps) : (setTimersEffect ops s).flow = s.flow := by
  rw [setTimersEffect]
  split <;> simp

theorem setPresetEffect_flow (src : Source) (ops : SetPresetOps) : (setPresetEffect src ops s).flow = s.flow := by
  simp only [setPresetEffect]
  split <;> simp

theorem setSourceEffect_flow (src : Source) (ops : SetSourceOps) : (setSourceEffect src ops s).flow = s.flow := by
  simp only [setSourceEffect]
  split
  · simp
  · split <;> simp

theorem spanWriteEffect_flow (src : Source) (ops : SpanWriteOps) : (spanWriteEffect src ops s).flow = s.flow := by
  simp only [spanWriteEffect, State.writeSpan]
  repeat' split
  all_goals simp

theorem spanQueryEffect_flow (ops : SpanQueryOps) : (spanQueryEffect ops s).flow = s.flow := by
  rw [spanQueryEffect]
  split
  · simp
  · split <;> simp

theorem readCellEffect_flow (ops : ReadCellOps) : (readCellEffect ops s).flow = s.flow := by
  simp only [readCellEffect]
  split
  · simp
  · split <;> simp

theorem setEventsEffect_flow (ops : SetEventsOps) : (setEventsEffect ops s).flow = s.flow := by
  rw [setEventsEffect, State.flow_answer]
  rfl

theorem readStatusEffect_flow (ops : ReadStatusOps) : (readStatusEffect ops s).flow = s.flow := by
  simp only [readStatusEffect]
  split <;> simp

theorem setJobTagEffect_flow (ops : SetJobTagOps) : (setJobTagEffect ops s).flow = s.flow := by
  rw [setJobTagEffect, State.flow_answer]
  rfl

theorem resetPartEffect_flow (ops : NoOps) : (resetPartEffect ops s).flow = s.flow := by
  rw [resetPartEffect]
  split
  · simp
  · rw [State.flow_answer]
    rfl

theorem statusEffect_flow (h : Head) (executing : Option Byte) (drag cycles ms : Nat) :
    (statusEffect h executing drag cycles ms s).flow = s.flow := by
  simp only [statusEffect, State.sample]
  repeat' split
  all_goals simp

theorem evaluationEffect_flow (h : Head) : (evaluationEffect h s).flow = s.flow := by
  rw [evaluationEffect]
  split
  · split <;> simp
  all_goals rfl

theorem passEffect_flow : (passEffect s).flow = s.flow := by
  rw [passEffect]
  split
  · exact (State.flow_foldl _ (fun u h => u.flow_evaluate h) _).trans rfl
  all_goals rfl

theorem strokeEffect_flow (st : Stroke) : (strokeEffect st s).flow = s.flow := by
  simp only [strokeEffect, State.accept]
  split
  · split <;> simp
  · simp

/-- The commands that drop a frame or end one. -/
def endsFrame : Instr → Bool
  | .corruptFrame .. | .lengthAbove48 .. | .receiveGap .. | .driveFault .. | .driveFrameSent | .replySent | .doneSent
  | .eventSent => true
  | _ => false

/-- A command that neither drops a frame nor ends one leaves what waits, arrives and is being sent. -/
theorem effectOf_flow {c : Instr} (low : c ≠ .resetPinLow) (power : c ≠ .powerOnReset) (ends : endsFrame c = false) :
    (effectOf c s).flow = s.flow := by
  cases c with
  | resetPinLow => exact absurd rfl low
  | powerOnReset => exact absurd rfl power
  | corruptFrame | lengthAbove48 | receiveGap | driveFault | driveFrameSent | replySent | doneSent | eventSent => cases ends
  | stroke st => exact strokeEffect_flow st
  | loadBlock hdr ops => exact manageTo_flow s _ hdr ops fun a _ => loadBlockEffect_flow a
  | initialisationVisitEnd =>
    show (initialisationVisitEndEffect s).flow = _
    rw [initialisationVisitEndEffect]
    split <;> simp
  | unloadBlock hdr ops => exact manageTo_flow s _ hdr ops fun a _ => unloadBlockEffect_flow a
  | unloadVisitEnd =>
    show (unloadVisitEndEffect s).flow = _
    rw [unloadVisitEndEffect]
    split <;> simp
  | writeGrade hdr ops => exact manageTo_flow s _ hdr ops fun a _ => writeGradeEffect_flow a
  | setNotifyWindow hdr ops => exact manageTo_flow s _ hdr ops fun a _ => setNotifyWindowEffect_flow a
  | flushQueue hdr ops => exact manageTo_flow s _ hdr ops fun a u => by simp [flushQueueEffect]
  | setHead hdr ops => exact manageTo_flow s _ hdr ops fun a _ => setHeadEffect_flow a
  | setPosition hdr ops => exact manageTo_flow s _ hdr ops fun a _ => setPositionEffect_flow a
  | holdHead hdr ops => exact manageTo_flow s _ hdr ops fun a _ => holdHeadEffect_flow a
  | releaseHead hdr ops => exact manageTo_flow s _ hdr ops fun a _ => releaseHeadEffect_flow a
  | clearHead hdr ops => exact manageTo_flow s _ hdr ops fun a _ => clearHeadEffect_flow a
  | setMonitor hdr ops => exact manageTo_flow s _ hdr ops fun a _ => setMonitorEffect_flow a
  | setTimers hdr ops => exact manageTo_flow s _ hdr ops fun a _ => setTimersEffect_flow a
  | setPreset hdr ops => exact manageTo_flow s _ hdr ops fun a _ => setPresetEffect_flow _ a
  | setSource hdr ops => exact manageTo_flow s _ hdr ops fun a _ => setSourceEffect_flow _ a
  | spanWrite hdr ops => exact manageTo_flow s _ hdr ops fun a _ => spanWriteEffect_flow _ a
  | spanQuery hdr ops => exact manageTo_flow s _ hdr ops fun a _ => spanQueryEffect_flow a
  | readCell hdr ops => exact manageTo_flow s _ hdr ops fun a _ => readCellEffect_flow a
  | setEvents hdr ops => exact manageTo_flow s _ hdr ops fun a _ => setEventsEffect_flow a
  | readStatus hdr ops => exact manageTo_flow s _ hdr ops fun a _ => readStatusEffect_flow a
  | setJobTag hdr ops => exact manageTo_flow s _ hdr ops fun a _ => setJobTagEffect_flow a
  | resetPart hdr ops => exact manageTo_flow s _ hdr ops fun a _ => resetPartEffect_flow a
  | badCommand hdr code => exact manageTo_flow s _ hdr _ fun a u => u.flow_refuse _
  | evaluation h => exact evaluationEffect_flow h
  | pass => exact passEffect_flow
  | status h executing drag cycles ms => exact statusEffect_flow h executing _ _ _
  | complete h issue p =>
    show (completeEffect h issue s).flow = _
    rw [completeEffect]
    split <;> simp [State.stale]
  | halted h issue k stop =>
    show (haltedEffect h issue _ stop s).flow = _
    rw [haltedEffect]
    split <;> simp [State.stale]
  | statusGapExpiry h =>
    show (statusGapExpiryEffect h s).flow = _
    rw [statusGapExpiryEffect]
    split <;> simp
  | overdueExpiry h =>
    show (overdueExpiryEffect h s).flow = _
    rw [overdueExpiryEffect]
    split <;> simp
  | machineStopAsserted =>
    show (machineStopAssertedEffect s).flow = _
    rw [machineStopAssertedEffect]
    split <;> simp [State.stopHeads, allHeads, State.setStop, State.recordEdge]
  | machineStopDeasserted =>
    show (machineStopDeassertedEffect s).flow = _
    rw [machineStopDeassertedEffect]
    split <;> simp [State.setStop, State.recordEdge]

end

end Sys2Proof.Machine

/-! ### Steps, resets and the lengths of the frames (R165, R173, R175, R180 to R186) -/

namespace Sys2Proof.Machine

variable {s t : State}

/-! #### The step and the resets -/

/-- Settles O1: by what the step finds at the front of each queue. -/
theorem stepTakesFrontCommand : Obligations.StepTakesFrontCommand := by
  refine ⟨fun c rest s => rfl, fun x more s quiet next => ?_, fun s quiet silent => ?_⟩
  · rw [step, quiet, next]
  · rw [step, quiet, silent]

/-- What follows a command places frames and leaves what waits and arrives (R88, R120, R173). -/
theorem settle_waiting (u : State) : (settle u).pending = u.pending ∧ (settle u).arriving = u.arriving ∧
    (settle u).receivers = u.receivers := ⟨settle_pending u, settle_arriving u, settle_receivers u⟩

theorem State.flow_waiting (flow : t.flow = s.flow) : t.pending = s.pending ∧ t.arriving = s.arriving ∧
    t.receivers = s.receivers := by
  simp only [State.flow, Prod.mk.injEq] at flow
  obtain ⟨pending, arriving, receivers, -, -⟩ := flow
  exact ⟨pending, arriving, receivers⟩

/-- A command that takes a frame from a link or sees one off leaves what waits and arrives, and has the receiver of a
dropped frame hunt (R165, R166). -/
theorem effectOf_waiting {c : Instr} (runs : s.Runs) (low : c ≠ .resetPinLow) (power : c ≠ .powerOnReset) :
    (effectOf c s).pending = s.pending ∧ (effectOf c s).arriving = s.arriving ∧
      (effectOf c s).receivers = s.receiversAfter c := by
  have high : s.pins.resetLow = false := runs
  have dropped (link : Link) (error : LinkError) : (s.endFrame link error).pending = s.pending ∧
      (s.endFrame link error).arriving = s.arriving ∧
      (s.endFrame link error).receivers = if s.pins.resetLow then s.receivers else s.receivers.put .hunting link := by
    rw [high]
    exact ⟨rfl, rfl, rfl⟩
  cases c with
  | resetPinLow => exact absurd rfl low
  | powerOnReset => exact absurd rfl power
  | corruptFrame link check => exact dropped link _
  | lengthAbove48 link length => exact dropped link .malformed
  | receiveGap link => exact dropped link .malformed
  | driveFault h issue code =>
    show (driveFaultEffect h issue code s).pending = _ ∧ (driveFaultEffect h issue code s).arriving = _ ∧
      (driveFaultEffect h issue code s).receivers = _
    rw [driveFaultEffect]
    by_cases zero : code = 0
    · have after : s.receiversAfter (.driveFault h issue code) = s.receivers.put .hunting .drive := by
        simp [State.receiversAfter, high, zero]
      rw [if_pos zero, after]
      exact ⟨rfl, rfl, rfl⟩
    · have after : s.receiversAfter (.driveFault h issue code) = s.receivers := by
        simp [State.receiversAfter, high, show code ≠ 0#8 from zero]
      rw [if_neg zero, after]
      split
      · exact State.flow_waiting (s.flow_raise ..)
      · exact State.flow_waiting (s.flow_handFault ..)
  | driveFrameSent => exact ⟨rfl, rfl, rfl⟩
  | replySent =>
    show (replySentEffect s).pending = _ ∧ (replySentEffect s).arriving = _ ∧ (replySentEffect s).receivers = _
    rw [replySentEffect]
    split
    · split <;> exact ⟨rfl, rfl, rfl⟩
    all_goals exact ⟨rfl, rfl, rfl⟩
  | doneSent =>
    show (doneSentEffect s).pending = _ ∧ (doneSentEffect s).arriving = _ ∧ (doneSentEffect s).receivers = _
    rw [doneSentEffect]
    split
    · split
      · split
        · simp [State.receiversAfter]
        · exact ⟨rfl, rfl, rfl⟩
      · exact ⟨rfl, rfl, rfl⟩
    all_goals exact ⟨rfl, rfl, rfl⟩
  | eventSent =>
    show (eventSentEffect s).pending = _ ∧ (eventSentEffect s).arriving = _ ∧ (eventSentEffect s).receivers = _
    rw [eventSentEffect]
    split <;> exact ⟨rfl, rfl, rfl⟩
  | _ => exact State.flow_waiting (effectOf_flow low power rfl)

/-- While RESET is low every command but those of the reset is answered, and changes at most the taken MACHINE STOP level
(R186). -/
theorem exec_next_of_low {c : Instr} (low : c ≠ .resetPinLow) (power : c ≠ .powerOnReset)
    (held : s.pins.resetLow = true) :
    ∃ level, exec c s = .next (s.setStop level) := by
  cases c with
  | resetPinLow => exact absurd rfl low
  | powerOnReset => exact absurd rfl power
  | machineStopAsserted | machineStopDeasserted => exact ⟨_, takeStop_low held⟩
  | _ => exact ⟨s.pins.machineStop, act_low s held⟩

/-- While RESET is low no frame is dropped (R186). -/
theorem State.receiversAfter_low {c : Instr} (low : c ≠ .resetPinLow) (power : c ≠ .powerOnReset)
    (held : s.pins.resetLow = true) : s.receiversAfter c = s.receivers := by
  cases c with
  | resetPinLow => exact absurd rfl low
  | powerOnReset => exact absurd rfl power
  | corruptFrame | lengthAbove48 | receiveGap | driveFault => simp [State.receiversAfter, held]
  | _ => rfl

/-- Settles O2: the two resets, the part with RESET low, and the running part. -/
theorem everyCommandAnswersNext : Obligations.EveryCommandAnswersNext := by
  intro c s
  by_cases low : c = .resetPinLow
  · subst low; exact ⟨_, rfl, rfl, rfl, rfl⟩
  by_cases power : c = .powerOnReset
  · subst power; exact ⟨_, rfl, rfl, rfl, rfl⟩
  cases held : s.pins.resetLow with
  | true =>
    obtain ⟨level, next⟩ := exec_next_of_low low power held
    exact ⟨_, next, rfl, rfl, (State.receiversAfter_low low power held).symm⟩
  | false =>
    obtain ⟨pending, arriving, receivers⟩ := effectOf_waiting held low power
    obtain ⟨settled, arrived, heard⟩ := settle_waiting (effectOf c s)
    exact ⟨_, exec_runs held low power, settled.trans pending, arrived.trans arriving, heard.trans receivers⟩

/-- Settles O4: both sides are the reset values around what the reset keeps. -/
theorem powerOnResetRestoresReset : Obligations.PowerOnResetRestoresReset := fun _ => rfl

/-- Settles O5: the tables entry by entry, the heads all alike. -/
theorem resetStateValues : Obligations.ResetStateValues := by
  refine ⟨rfl, rfl, by decide, by decide, fun h => (State.head_reset h).trans rfl, rfl, rfl, rfl, rfl, rfl, rfl, rfl, rfl, rfl,
    rfl⟩

/-- Settles O6: with every list empty and every head at its reset values each law is a finite check. -/
theorem resetKeepsEveryLaw : Obligations.ResetKeepsEveryLaw := by
  refine ⟨?_, ?_, ?_, ?_, ?_, ?_, ?_, ?_, ?_, ?_, ?_, ?_, ?_, ?_, ?_, ?_, ?_, ?_, ?_, ?_, ?_⟩
  all_goals decide

/-! #### The lengths of the frames -/

@[simp] theorem byte1_length (n : Nat) : (byte1 n).length = 1 := rfl
@[simp] theorem nat2_length (n : Nat) : (nat2 n).length = 2 := rfl
@[simp] theorem word2_length (w : Word) : (word2 w).length = 2 := rfl
@[simp] theorem flag1_length (b : Bool) : (flag1 b).length = 1 := rfl
@[simp] theorem head1_length (h : Head) : (head1 h).length = 1 := rfl
@[simp] theorem owner1_length (o : Option Head) : (owner1 o).length = 1 := by cases o <;> rfl

theorem PlacedFrame.body_reply (r : Reply) (fresh : Nat) :
    (PlacedFrame.body ⟨.reply r, fresh⟩).2.length = (r.results.bytes fresh).length + 3 := by
  rw [PlacedFrame.body, List.length_append, Nat.add_comm]
  rfl

theorem eventBytes_length (fresh : Nat) (cls : EventClass) (o : Occurrence) (jobTag : Word) :
    (eventBytes fresh cls o jobTag).length = 9 := by
  have cls : cls.bytes.length = 2 := by cases cls <;> rfl
  simp [eventBytes, cls]

/-- Settles O51: each payload is fields of fixed lengths one after another. -/
theorem outboundFramesHaveTheirLengths : Obligations.OutboundFramesHaveTheirLengths := by
  refine ⟨fun body => ?_, fun n jobTag fresh => ?_, fun cls o jobTag fresh => eventBytes_length .., fun _ _ _ _ => rfl,
    ?_,
    fun _ _ _ _ => rfl, fun _ _ _ _ => ⟨rfl, rfl⟩, fun _ _ _ _ _ _ _ _ => rfl, fun _ => rfl⟩
  · simp only [envelope, List.length_append, List.length_singleton, byte1_length, word2_length]
    omega
  · rcases n with ⟨_, _, _, _, _ | k, _⟩ <;> simp [PlacedFrame.body, Notice.bytes]
  · intro seq code fresh
    simp only [PlacedFrame.body_reply]
    refine ⟨?_, ?_, ?_, ?_, ?_, ?_, ?_, ?_, ?_, ?_, ?_, ?_, ?_, ?_, ?_, ?_, ?_, ?_, ?_⟩
    case refine_17 =>
      intro x
      simp [Results.bytes]
    all_goals intros; rfl

end Sys2Proof.Machine

/-! ### Occurrences and the order of the transmitters (R88, R169 to R173) -/

namespace Sys2Proof.Machine

variable {s t u : State}

/-! #### An occurrence and its slot (R170, R171) -/

/-- Settles O49: by whether the class is enabled and pending, and for its slot by whether it is being sent. -/
theorem occurrenceReachesItsSlot : Obligations.OccurrenceReachesItsSlot := by
  intro cls d o
  refine ⟨fun disabled => ?_, fun enabled fresh => ?_, fun enabled pending => ?_⟩
  · rw [Outbound.raise, enabledIn, disabled]
    rfl
  · have none : isPending o.events cls = false := by
      rw [isPending, List.any_eq_false]
      exact fun e he => by simpa using fresh e he
    rw [Outbound.raise, enabledIn, enabled, none]
    rfl
  · obtain ⟨x, hx, rfl⟩ := pending
    have some : isPending o.events x.cls = true := List.any_eq_true.mpr ⟨x, hx, beq_self_eq_true _⟩
    have events : (o.raise x.cls d).events = o.events.map fun e => if e.cls == x.cls then e.record d else e := by
      rw [Outbound.raise, enabledIn, enabled, some]
      rfl
    refine ⟨by rw [events, List.length_map], fun i e he => ?_⟩
    have here : (o.raise x.cls d).events[i]? = Option.some (if e.cls == x.cls then e.record d else e) := by
      rw [events, List.getElem?_map, he]
      rfl
    rw [here]
    refine ⟨fun other => ?_, fun same idle => ?_, fun same sending late => ?_, fun y same sending late => ?_⟩
    · rw [if_neg (by simpa using other)]
    · rw [if_pos (by simpa using same), EventSlot.record, idle]
      rfl
    · rw [if_pos (by simpa using same), EventSlot.record, sending, late]
      rfl
    · rw [if_pos (by simpa using same), EventSlot.record, sending, late]
      rfl

/-! #### The frame that a free line transmitter takes (R173) -/

/-- A free line transmitter takes the first frame in the order of R173. -/
theorem settle_sent (free : s.out.tx = none) :
    let sent := (settle s).out.tx.map PlacedFrame.frame
    let faults := s.out.events.filter fun e => e.isHeadFault && !e.sending
    let others := s.out.events.filter fun e => !e.sending
    (∀ e more, faults = e :: more → sent = some (.event e.cls e.first s.mgmt.jobTag)) ∧
    (∀ r, faults = [] → s.out.replySlot = some r → sent = some (.reply r)) ∧
    (∀ n more, faults = [] → s.out.replySlot = none → s.out.notices = n :: more →
      sent = some (.done n.notice s.mgmt.jobTag)) ∧
    (∀ e more, faults = [] → s.out.replySlot = none → s.out.notices = [] → others = e :: more →
      sent = some (.event e.cls e.first s.mgmt.jobTag)) ∧
    (others = [] → s.out.replySlot = none → s.out.notices = [] → sent = none) := by
  intro sent faults others
  have noFault (none : others = []) : faults = [] := by
    have : faults = others.filter EventSlot.isHeadFault := (List.filter_filter ..).symm
    rw [this, none]
    rfl
  obtain ⟨v, choice, arbitrated⟩ := s.arbitrate_free free
  have frame : sent = v.out.tx.map PlacedFrame.frame := by
    rw [← choice, ← settle_out]
  rw [frame]
  cases arbitrated with
  | fault e first =>
    have first : faults.head? = some e := List.head?_filter.trans first
    refine ⟨fun x more is => ?_, fun r no => ?_, fun n more no => ?_, fun x more no => ?_, fun no => ?_⟩
    · rw [is] at first
      cases first
      rfl
    · simp [no] at first
    · simp [no] at first
    · simp [no] at first
    · simp [noFault no] at first
  | reply r faultless slot =>
    have faultless : faults.head? = none := List.head?_filter.trans faultless
    refine ⟨fun x more is => ?_, fun x no is => ?_, fun n more no is => ?_, fun x more no is => ?_, fun no is => ?_⟩
    · simp [is] at faultless
    · cases slot.symm.trans is
      rfl
    all_goals cases slot.symm.trans is
  | notice n rest faultless slot oldest =>
    have faultless : faults.head? = none := List.head?_filter.trans faultless
    refine ⟨fun x more is => ?_, fun x no is => ?_, fun m more no is list => ?_, fun x more no is list => ?_,
      fun no is list => ?_⟩
    · simp [is] at faultless
    · cases slot.symm.trans is
    · cases oldest.symm.trans list
      rfl
    all_goals cases oldest.symm.trans list
  | event e faultless slot notices first =>
    have faultless : faults.head? = none := List.head?_filter.trans faultless
    have first : others.head? = some e := List.head?_filter.trans first
    refine ⟨fun x more is => ?_, fun x no is => ?_, fun m more no is list => ?_, fun x more no is list one => ?_,
      fun no is list => ?_⟩
    · simp [is] at faultless
    · cases slot.symm.trans is
    · cases notices.symm.trans list
    · rw [one] at first
      cases first
      rfl
    · simp [no] at first
  | idle slot notices nothing =>
    have nothing : others.head? = none := List.head?_filter.trans nothing
    have empty : others = [] := List.head?_eq_none_iff.mp nothing
    refine ⟨fun x more is => ?_, fun x no is => ?_, fun m more no is list => ?_, fun x more no is list one => ?_,
      fun no is list => ?_⟩
    · rw [noFault empty] at is
      cases is
    · cases slot.symm.trans is
    · cases notices.symm.trans list
    · cases empty.symm.trans one
    · rw [free]
      rfl

/-- What follows a command marks slots as being sent, and nothing else of the pending slots (R171). -/
theorem settle_keeps (s : State) : ∃ p : EventSlot → Bool,
    (settle s).out.events = s.out.events.map fun e => if p e then { e with sending := true } else e := by
  rw [settle_out]
  exact s.arbitrate_events

/-- With no slot being sent before it, the arbiter's choice is the first of all that is left (R173). -/
theorem settle_sendsFirst (free : s.out.tx = none) (sending : s.SendingLaw) : (settle s).SendsFirst := by
  obtain ⟨fault, reply, notice, other, idle⟩ := settle_sent free
  have unsent := Outbound.Sending.none sending (by rw [free]; rfl)
  have all : s.out.events.filter (fun e => !e.sending) = s.out.events :=
    List.filter_eq_self.mpr fun e he => by rw [unsent e he]; rfl
  have faults : s.out.events.filter (fun e => e.isHeadFault && !e.sending) = s.out.events.filter EventSlot.isHeadFault :=
    List.filter_congr fun e he => by rw [unsent e he, Bool.not_false, Bool.and_true]
  rw [faults] at fault reply notice other
  rw [all] at other idle
  obtain ⟨p, events⟩ := settle_keeps s
  have marked (e : EventSlot) : (if p e then { e with sending := true } else e : EventSlot).cls = e.cls ∧
      (if p e then { e with sending := true } else e : EventSlot).first = e.first := by
    split <;> exact ⟨rfl, rfl⟩
  have headFault (e : EventSlot) : (if p e then { e with sending := true } else e : EventSlot).isHeadFault = e.isHeadFault := by
    rw [EventSlot.isHeadFault, EventSlot.isHeadFault, (marked e).1]
  have after : (settle s).out.events.filter EventSlot.isHeadFault =
      (s.out.events.filter EventSlot.isHeadFault).map fun e => if p e then { e with sending := true } else e := by
    rw [events, List.filter_map]
    exact congrArg _ (List.filter_congr fun e _ => headFault e)
  have noticed : (settle s).out.notices.map QueuedNotice.notice = s.out.notices.map QueuedNotice.notice :=
    settle_noticeContents s
  have faultless (h : (settle s).out.events.filter EventSlot.isHeadFault = []) :
      s.out.events.filter EventSlot.isHeadFault = [] := List.map_eq_nil_iff.mp (after.symm.trans h)
  have noNotices (h : (settle s).out.notices = []) : s.out.notices = [] := by
    rw [h] at noticed
    exact List.map_eq_nil_iff.mp noticed.symm
  have noEvents (h : (settle s).out.events = []) : s.out.events = [] := List.map_eq_nil_iff.mp (events.symm.trans h)
  refine ⟨fun e more is => ?_, fun r no is => ?_, fun n more no is list => ?_, fun e more no is list one => ?_,
    fun no is list => ?_⟩
  · obtain ⟨e₀, more₀, is₀, rfl, -⟩ := List.map_eq_cons_iff.mp (after.symm.trans is)
    rw [(marked e₀).1, (marked e₀).2, settle_mgmt]
    exact fault e₀ more₀ is₀
  · exact reply r (faultless no) (by rwa [settle_replySlot] at is)
  · rw [list, List.map_cons] at noticed
    obtain ⟨n₀, more₀, is₀, same, -⟩ := List.map_eq_cons_iff.mp noticed.symm
    rw [← same, settle_mgmt]
    exact notice n₀ more₀ (faultless no) (by rwa [settle_replySlot] at is) is₀
  · obtain ⟨e₀, more₀, is₀, rfl, -⟩ := List.map_eq_cons_iff.mp (events.symm.trans one)
    rw [(marked e₀).1, (marked e₀).2, settle_mgmt]
    exact other e₀ more₀ (faultless no) (by rwa [settle_replySlot] at is) (noNotices list) is₀
  · exact idle (noEvents no) (by rwa [settle_replySlot] at is) (noNotices list)

/-! #### The frames on the transmitters around a command -/

/-- Only the end of its frame takes the frame off the line transmitter (R169, R171, R173). -/
theorem effectOf_line {c : Instr} (low : c ≠ .resetPinLow) (power : c ≠ .powerOnReset) (reply : c ≠ .replySent)
    (done : c ≠ .doneSent) (event : c ≠ .eventSent) : (effectOf c s).out.tx = s.out.tx := by
  have flown {v : State} (flow : v.flow = s.flow) : v.out.tx = s.out.tx := by
    simp only [State.flow, Prod.mk.injEq] at flow
    exact flow.2.2.2.1
  have dropped (link : Link) (error : LinkError) : (s.endFrame link error).out.tx = s.out.tx :=
    (Quiet.endFrame s link error).out.frame.1
  cases c with
  | resetPinLow => exact absurd rfl low
  | powerOnReset => exact absurd rfl power
  | replySent => exact absurd rfl reply
  | doneSent => exact absurd rfl done
  | eventSent => exact absurd rfl event
  | corruptFrame link check => exact dropped link _
  | lengthAbove48 link length => exact dropped link .malformed
  | receiveGap link => exact dropped link .malformed
  | driveFault h issue code => exact (Plain.driveFault s h issue code).out.frame.1
  | driveFrameSent => rfl
  | _ => exact flown (effectOf_flow low power rfl)

/-- Only the end of its frame takes the frame off the drive transmitter (R88). -/
theorem effectOf_drive {c : Instr} (low : c ≠ .resetPinLow) (power : c ≠ .powerOnReset) (sent : c ≠ .driveFrameSent) :
    (effectOf c s).drive.tx = s.drive.tx := by
  have flown {v : State} (flow : v.flow = s.flow) : v.drive.tx = s.drive.tx := by
    simp only [State.flow, Prod.mk.injEq] at flow
    exact flow.2.2.2.2
  cases c with
  | resetPinLow => exact absurd rfl low
  | powerOnReset => exact absurd rfl power
  | driveFrameSent => exact absurd rfl sent
  | corruptFrame | lengthAbove48 | receiveGap => rfl
  | driveFault h issue code =>
    show (driveFaultEffect h issue code s).drive.tx = _
    rw [driveFaultEffect]
    split
    · rfl
    · split
      · rfl
      · exact flown (s.flow_handFault ..)
  | replySent =>
    show (replySentEffect s).drive.tx = _
    rw [replySentEffect]
    split
    · split <;> rfl
    all_goals rfl
  | doneSent =>
    show (doneSentEffect s).drive.tx = _
    rw [doneSentEffect]
    split
    · split
      · split
        · rw [State.raiseOccasion_drive]; rfl
        · rfl
      · rfl
    all_goals rfl
  | eventSent =>
    show (eventSentEffect s).drive.tx = _
    rw [eventSentEffect]
    split <;> rfl
  | _ => exact flown (effectOf_flow low power rfl)

/-- Every REPLY but that of READ_STATUS is one frame (R181). -/
theorem Reply.inOneFrame {r : Reply} (one : ∀ record, r.results ≠ .readStatus record) : r.inTwoFrames = false := by
  rw [Reply.inTwoFrames]
  split
  · next record is => exact absurd is (one record)
  all_goals rfl

/-- With a free line transmitter, or at the end of the frame on it, a command leaves the line transmitter free. -/
theorem effectOf_frees {c : Instr} (low : c ≠ .resetPinLow) (power : c ≠ .powerOnReset) (frees : s.FreesLine c) :
    (effectOf c s).out.tx = none := by
  obtain free | ⟨⟨frame, fresh⟩, tx, ends⟩ := frees
  · by_cases ends : c = .replySent ∨ c = .doneSent ∨ c = .eventSent
    · obtain rfl | rfl | rfl := ends
      · show (replySentEffect s).out.tx = none
        simp only [replySentEffect, free]
      · show (doneSentEffect s).out.tx = none
        simp only [doneSentEffect, free]
      · show (eventSentEffect s).out.tx = none
        simp only [eventSentEffect, free]
    · simp only [not_or] at ends
      obtain ⟨reply, done, event⟩ := ends
      exact (effectOf_line low power reply done event).trans free
  · obtain ⟨rfl, r, rfl | ⟨rfl, one⟩⟩ | ⟨rfl, n, jobTag, rfl⟩ | ⟨rfl, cls, o, jobTag, rfl⟩ := ends
    · show (replySentEffect s).out.tx = none
      simp only [replySentEffect, tx]
      rfl
    · show (replySentEffect s).out.tx = none
      simp only [replySentEffect, tx, Reply.inOneFrame one]
      rfl
    · show (doneSentEffect s).out.tx = none
      simp only [doneSentEffect, tx]
      split
      · split
        · rw [State.raiseOccasion_out]; rfl
        · rfl
      · rfl
    · show (eventSentEffect s).out.tx = none
      simp only [eventSentEffect, tx]
      rfl

/-- Settles O50: the arbiter's choice in the order of R173, and what a command leaves on the transmitters. -/
theorem transmittersTakeTheNextFrame : Obligations.TransmittersTakeTheNextFrame := by
  refine ⟨fun s free => settle_sent free, fun c s t runs sending frees low power ht => ?_, fun s runs => ?_,
    fun c s t ht low power => ?_⟩
  · rw [exec_runs runs low power] at ht
    cases ht
    exact settle_sendsFirst (effectOf_frees low power frees) (Outbound.Sending.effectOf low power sending)
  · have taken : (settle (driveFrameSentEffect s)).drive = ⟨s.drive.queue.tail, s.drive.queue.head?⟩ := by
      rw [settle_drive, State.startDrive, driveFrameSentEffect]
      cases queue : s.drive.queue with
      | nil => simp [queue]
      | cons f rest => simp [queue]
    refine ⟨settle (s.withDrive { s.drive with tx := none }), act_runs s runs, by rw [← driveFrameSentEffect, taken],
      by rw [← driveFrameSentEffect, taken], sameMap_settle (by simp), sameTables_settle (by simp),
      heads_settle (by simp), sameAdmission_settle (by simp),
      sameEvents_settle (by simp), sameNotices_settle (by simp), sameManagement_settle (by simp),
      sameRest_settle (by simp)⟩
  · obtain ⟨is, -⟩ | ⟨is, -⟩ | ⟨-, level, rfl⟩ | ⟨runs, -, -, rfl⟩ := exec_cases ht
    · exact absurd is low
    · exact absurd is power
    · exact ⟨fun p tx _ _ _ => tx, fun f tx _ => tx⟩
    · exact ⟨fun p tx reply done event => settle_line_busy _ ((effectOf_line low power reply done event).trans tx),
        fun f tx sent => settle_drive_busy _ ((effectOf_drive low power sent).trans tx)⟩

end Sys2Proof.Machine

/-! ### Frames that are dropped and frames that have left (R154, R165 to R173, R181) -/

namespace Sys2Proof.Machine

variable {s t u : State}

/-! #### The receivers (R165) -/

/-- The bytes of a frame after its kind, to its second CRC byte, spell the command of its checks. -/
theorem commands_inside {link : Link} {kind : Byte} {n : Nat} (more : List Byte) {coming : List Byte}
    (some : coming ≠ []) :
    ∀ newestFirst : List Byte, newestFirst.length + coming.length = n + 2 →
      Receiver.commands link (.inside n kind newestFirst) (coming ++ more) =
        decodeFrame link kind ((newestFirst.reverse ++ coming).take n) (wordAt (newestFirst.reverse ++ coming) n) ::
          Receiver.commands link .hunting more := by
  induction coming with
  | nil => exact absurd rfl some
  | cons b coming ih =>
    intro got length
    rw [List.length_cons] at length
    rw [List.cons_append, Receiver.commands]
    by_cases last : coming = []
    · subst last
      have whole : ¬ got.length < n + 1 := by simp at length; omega
      simp only [Receiver.take, if_neg whole, List.reverse_cons]
      rfl
    · have part : got.length < n + 1 := by
        have := List.length_pos_iff.mpr last
        omega
      simp only [Receiver.take, if_pos part]
      rw [ih last (b :: got) (by rw [List.length_cons]; omega)]
      simp

/-- The CRC after a payload, read from the payload's end on. -/
theorem wordAt_append_word2 (payload : List Byte) (w : Word) : wordAt (payload ++ word2 w) payload.length = w := by
  have high : byteAt (payload ++ word2 w) payload.length = w.extractLsb' 8 8 := by
    simp [byteAt, word2]
  have low : byteAt (payload ++ word2 w) (payload.length + 1) = w.extractLsb' 0 8 := by
    simp [byteAt, word2]
  rw [wordAt, high, low]
  apply BitVec.eq_of_getLsbD_eq
  intro i hi
  rw [BitVec.getLsbD_append, BitVec.getLsbD_extractLsb', BitVec.getLsbD_extractLsb']
  by_cases lower : i < 8
  · simp [lower]
  · have place : 8 + (i - 8) = i := by omega
    have here : i - 8 < 8 := by omega
    simp [lower, place, here]

/-- A byte that ends no frame. -/
theorem commands_quiet {link : Link} {r r' : Receiver} {b : Byte} {rest : List Byte} (quiet : r.take link b = (r',
    none)) :
    Receiver.commands link r (b :: rest) = Receiver.commands link r' rest := by
  rw [Receiver.commands, quiet]

/-- A frame of the envelope spells its one command (R165, R175). -/
theorem commands_frame (link : Link) (kind : Byte) (payload more : List Byte) (crcReceived : Word)
    (short : payload.length ≤ 48) :
    Receiver.commands link .hunting
        ([0xC3, BitVec.ofNat 8 payload.length, kind] ++ payload ++ word2 crcReceived ++ more) =
      decodeFrame link kind payload crcReceived :: Receiver.commands link .hunting more := by
  have length : (BitVec.ofNat 8 payload.length).toNat = payload.length := by
    rw [BitVec.toNat_ofNat]
    omega
  have sized : Receiver.take link .delimited (BitVec.ofNat 8 payload.length) = (.sizedBy payload.length, none) := by
    rw [Receiver.take, length, if_neg (Nat.not_lt.mpr short)]
  have begun : Receiver.commands link .hunting
      ([0xC3, BitVec.ofNat 8 payload.length, kind] ++ payload ++ word2 crcReceived ++ more) =
        Receiver.commands link (.inside payload.length kind []) ((payload ++ word2 crcReceived) ++ more) := by
    simp only [List.cons_append, List.nil_append]
    rw [commands_quiet (show Receiver.take link .hunting 0xC3 = (.delimited, none) from rfl), commands_quiet sized,
      commands_quiet rfl]
  have bytes : (payload ++ word2 crcReceived).length = payload.length + 2 := by simp
  rw [begun, commands_inside more (by simp [word2]) [] (by rw [bytes]; simp)]
  simp [wordAt_append_word2]

theorem countUp_eq (k : Nat) : countUp k = if k < 65535 then k + 1 else 65535 := by
  rw [countUp]
  split <;> omega

/-- What a dropped frame comes to (R165, R166, R167). -/
theorem endFrame_counts (link : Link) (error : LinkError) (s : State) :
    let n := s.counters
    let up := fun k : Nat => if k < 65535 then k + 1 else 65535
    let t := settle (s.endFrame link error)
    t.counters = (match link, error with
      | .line, .crc => { n with lineCrc := up n.lineCrc }
      | .line, .malformed => { n with lineMalformed := up n.lineMalformed }
      | .drive, .crc => { n with driveCrc := up n.driveCrc }
      | .drive, .malformed => { n with driveMalformed := up n.driveMalformed }) ∧
    t.eventContents = s.eventsWith (.ofPart .linkError) (.linkError link error) ∧ SameMap s t ∧ SameTables s t ∧
    t.heads = s.heads ∧ SameAdmission s t ∧ SameNotices s t ∧ SameManagement s t ∧ SameDrive s t ∧
    t.pins.resetLow = s.pins.resetLow ∧ t.pins.machineStop = s.pins.machineStop ∧ t.out.enables = s.out.enables ∧
    t.pending = s.pending := by
  have out : (s.endFrame link error).out = s.out.raise (.ofPart .linkError) (.linkError link error) := rfl
  refine ⟨?_, eventContents_raise out, sameMap_settle (by simp), sameTables_settle (by simp), heads_settle (by simp),
    sameAdmission_settle (by simp),
    sameNotices_settle (by rw [out, Outbound.raise_notices]), sameManagement_settle ⟨by rfl, by rw [out,
    Outbound.raise_replySlot]⟩,
    sameDrive_settle (by rfl), by simp, by simp, by rw [settle_enables, out, Outbound.raise_enables], by simp⟩
  rw [settle_counters]
  show s.counters.bump link error = _
  cases link with
  | line | drive => cases error with
    | crc | malformed => simp only [LinkCounters.bump, countUp_eq]

/-- Settles O47: the receiver byte by byte, and each command of a dropped frame as one effect. -/
theorem droppedFramesAreCounted : Obligations.DroppedFramesAreCounted := by
  refine ⟨⟨fun link b other => ?_,
    fun link kind payload more crcReceived short => commands_frame link kind payload more crcReceived short,
    fun link b long => ?_, fun link r => ?_, fun x s runs => State.hear_runs s x runs⟩, fun link s runs => ?_⟩
  · rw [Receiver.take, if_neg other]
  · rw [Receiver.take, if_pos long]
  · cases r with
    | hunting => rfl
    | delimited | sizedBy | inside => rfl
  · refine ⟨?_, ?_, ?_, ?_, fun length => ?_, ?_⟩
    all_goals
      intro _ _ _ _
      exact ⟨_, act_runs s runs, endFrame_counts link _ s⟩

/-! #### The ends of the frames (R154, R169, R171) -/

/-- Only one pending slot stands for a class (R170). -/
theorem EventSlot.eq_of_cls {e x : EventSlot} (once : (s.out.events.map EventSlot.cls).Nodup) (he : e ∈ s.out.events)
    (hx : x ∈ s.out.events) (same : x.cls = e.cls) : x = e := eq_of_nodup_map once hx he same

/-- The end of the frame of a class that is not being sent takes nothing (R172, R174). -/
theorem finishEvent_idle {cls : EventClass} {events : List EventSlot}
    (idle : ∀ e ∈ events, e.cls = cls → e.sending = false) : finishEvent cls events = events := by
  have none : (events.find? fun e => e.cls == cls && e.sending) = none :=
    List.find?_eq_none.mpr fun e he => by
      rw [Bool.and_eq_true, beq_iff_eq]
      rintro ⟨same, sending⟩
      exact absurd ((idle e he same).symm.trans sending) Bool.false_ne_true
  rw [finishEvent, none]

/-- The end of the frame of a slot takes it from its place, and a late record makes it the newest (R171). -/
theorem finishEvent_sending {e : EventSlot} (once : (s.out.events.map EventSlot.cls).Nodup) (he : e ∈ s.out.events)
    (sending : e.sending = true) : (finishEvent e.cls s.out.events).map EventSlot.content =
      s.eventContents.filter (fun x => x.1 ≠ e.cls) ++
        (match e.late with
          | none => []
          | some o => [(e.cls, o, none)]) := by
  have this : ∀ x ∈ s.out.events, (x.cls == e.cls && x.sending) = (x.cls == e.cls) := fun x hx => by
    cases same : x.cls == e.cls with
    | false => rfl
    | true => rw [EventSlot.eq_of_cls once he hx (beq_iff_eq.mp same), sending]; rfl
  have found : (s.out.events.find? fun x => x.cls == e.cls && x.sending) = some e := by
    cases hf : s.out.events.find? fun x => x.cls == e.cls && x.sending with
    | none => exact absurd (List.find?_eq_none.mp hf e he) (by simp [sending])
    | some x =>
      have here := List.find?_some hf
      rw [this x (List.mem_of_find?_eq_some hf), beq_iff_eq] at here
      rw [EventSlot.eq_of_cls once he (List.mem_of_find?_eq_some hf) here]
  have rest : (s.out.events.filter fun x => !(x.cls == e.cls && x.sending)).map EventSlot.content =
      s.eventContents.filter (fun x => x.1 ≠ e.cls) := by
    rw [State.eventContents, List.filter_map]
    refine congrArg _ (List.filter_congr fun x hx => ?_)
    rw [this x hx]
    by_cases same : x.cls = e.cls <;> simp [EventSlot.content, same]
  simp only [finishEvent, found]
  cases e.late with
  | none => rw [rest, List.append_nil]
  | some o => rw [List.map_append, rest]; rfl

/-- The REPLY has left (R154, R173). -/
theorem settle_replyGone : let t := settle s.replyGone
    t.mgmt = { s.mgmt with slot := none } ∧ t.out.replySlot = none ∧ SameMap s t ∧ SameTables s t ∧ t.heads = s.heads ∧
      SameAdmission s t ∧ SameEvents s t ∧ SameNotices s t ∧ SameDrive s t ∧ SameRest s t := by
  rw [State.replyGone]
  exact ⟨by simp, by simp, sameMap_settle (by simp), sameTables_settle (by simp), heads_settle (by simp),
    sameAdmission_settle (by simp), sameEvents_settle (by simp),
    sameNotices_settle (by simp), sameDrive_settle (by simp), sameRest_settle (by simp)⟩

/-- A frame that goes with nothing else done (R172, R174). -/
theorem settle_freeLine : let t := settle s.freeLine
    SameNotices s t ∧ t.slotsInUse = s.slotsInUse ∧ SameAdmission s t ∧ SameMap s t ∧ SameTables s t ∧
      t.heads = s.heads ∧ SameEvents s t ∧ SameManagement s t ∧ SameDrive s t ∧ SameRest s t := by
  rw [State.freeLine]
  exact ⟨sameNotices_settle (by simp), by rw [settle_slotsInUse]; rfl, sameAdmission_settle (by simp),
    sameMap_settle (by simp), sameTables_settle (by simp),
    heads_settle (by simp), sameEvents_settle (by simp), sameManagement_settle (by simp), sameDrive_settle (by simp),
    sameRest_settle (by simp)⟩

/-- Settles O48: by the frame that has left, and for a notice or a slot by whether it still stands. -/
theorem sentFramesFreeTheirSlots : Obligations.SentFramesFreeTheirSlots := by
  refine ⟨fun r fresh s runs => ?reply, fun n jobTag fresh x rest s runs tx notices sending => ?notice,
    fun n jobTag fresh s runs tx discarded => ?discarded, fun cls o jobTag fresh s runs tx idle => ?idle,
    fun e jobTag fresh s runs law he sending tx => ?event⟩
  case reply =>
    refine ⟨fun one tx => ?_, fun tx => ?_, fun record is tx => ?_⟩
    · have gone : replySentEffect s = s.replyGone := by
        simp only [replySentEffect, tx, Reply.inOneFrame one]
        rfl
      exact ⟨_, act_runs s runs, by rw [gone]; exact settle_replyGone⟩
    · have gone : replySentEffect s = s.replyGone := by simp only [replySentEffect, tx]
      exact ⟨_, act_runs s runs, by rw [gone]; exact settle_replyGone⟩
    · have second : replySentEffect s = s.place (.statusSecond r) := by
        simp only [replySentEffect, tx, Reply.inTwoFrames, is]
        rfl
      refine ⟨_, act_runs s runs, ?_⟩
      rw [second, settle_line_busy (p := ⟨.statusSecond r, s.fresh⟩) _ (by rfl), State.place]
      exact ⟨rfl, by simp, by simp, sameMap_settle (by simp), sameTables_settle (by simp), heads_settle (by simp),
        sameAdmission_settle (by simp),
        sameEvents_settle (by simp), sameNotices_settle (by simp), sameDrive_settle (by simp),
        sameRest_settle (by simp)⟩
  case notice =>
    have gone : doneSentEffect s =
        (s.withOut { s.out with tx := none, notices := rest }).withOccasions (s.occasions ++ s.kept [.pass none]) := by
      simp only [doneSentEffect, tx, notices, sending, if_true, State.raiseOccasion_eq]
      rfl
    refine ⟨_, act_runs s runs, ?_⟩
    rw [gone]
    refine ⟨?_, ?_, by simp, by simp, sameMap_settle (by simp), sameTables_settle (by simp), heads_settle (by simp),
      sameEvents_settle (by simp),
      sameManagement_settle (by simp), sameDrive_settle (by simp), sameRest_settle (by simp)⟩
    · rw [settle_noticeContents]
      rfl
    · rw [settle_slotsInUse, State.slotsInUse, State.slotsInUse, notices]
      rfl
  case discarded =>
    have freed : doneSentEffect s = s.freeLine := by
      simp only [doneSentEffect, tx]
      split
      · next x rest list => rw [discarded x (by rw [list]; rfl)]; rfl
      · rfl
    exact ⟨_, act_runs s runs, by rw [freed]; exact settle_freeLine⟩
  case idle =>
    have freed : eventSentEffect s = s.freeLine := by
      simp only [eventSentEffect, tx, finishEvent_idle idle]
      rfl
    obtain ⟨notices, -, admission, map, tables, heads, events, management, drive, rest⟩ := settle_freeLine (s := s)
    exact ⟨_, act_runs s runs, by rw [freed]; exact ⟨events, map, tables, heads, admission, notices, management, drive,
      rest⟩⟩
  case event =>
    have gone : eventSentEffect s = s.withOut { s.out with tx := none, events := finishEvent e.cls s.out.events } := by
      simp only [eventSentEffect, tx]
    refine ⟨_, act_runs s runs, ?_⟩
    rw [gone]
    refine ⟨?_, sameMap_settle (by simp), sameTables_settle (by simp), heads_settle (by simp),
      sameAdmission_settle (by simp), sameNotices_settle (by simp),
      sameManagement_settle (by simp), sameDrive_settle (by simp), sameRest_settle (by simp)⟩
    rw [settle_eventContents]
    exact finishEvent_sending law.1 he sending

end Sys2Proof.Machine

/-! ### Reports of the heads (R85, R88 to R98, R107, R110, R127) -/

namespace Sys2Proof.Machine

variable {s : State} {h : Head} {r : InFlight}

/-! #### Stale reports (R90, R97) -/

theorem HeadRecord.matching_none {hd : HeadRecord} {issue : Byte} (other : ∀ r, hd.inFlight.head? = some r →
    r.issue ≠ issue) :
    hd.matching issue = none := by
  rw [HeadRecord.matching, Option.filter_eq_none_iff]
  exact fun r oldest => by simpa using other r oldest

theorem HeadRecord.matching_some {hd : HeadRecord}
    (oldest : hd.inFlight.head? = some r) : hd.matching r.issue = some r := by
  rw [HeadRecord.matching, oldest]
  simp

theorem HeadRecord.matchingHalted_none {hd : HeadRecord} {issue : Byte} {k : Nat}
    (beyond : ∀ r, hd.inFlight.head? = some r → r.issue = issue → r.pathLength + 1 < k) :
    hd.matchingHalted issue k = none := by
  rw [HeadRecord.matchingHalted, Option.filter_eq_none_iff]
  intro r matching
  rw [HeadRecord.matching, Option.filter_eq_some_iff] at matching
  obtain ⟨oldest, number⟩ := matching
  simpa using beyond r oldest (beq_iff_eq.mp number)

theorem HeadRecord.matchingHalted_some {hd : HeadRecord} {k : Nat} (oldest : hd.inFlight.head? = some r)
    (within : k ≤ r.pathLength + 1) : hd.matchingHalted r.issue k = some r := by
  rw [HeadRecord.matchingHalted, HeadRecord.matching_some oldest]
  simp [within]

/-- Settles O46: a stale report is an occurrence and a sign of life. -/
theorem staleReportChangesNothing : Obligations.StaleReportChangesNothing := by
  intro h issue s runs hd stale
  have staled (kind : ReportKind) : stale kind (settle ((s.stale h issue kind).modHead h HeadRecord.signOfLife)) := by
    refine ⟨?_, sameOtherHeads_settle (by intro g hg; simp [hg, State.stale]), eventContents_raise rfl,
      sameAdmission_settle ⟨rfl, rfl⟩, sameMap_settle ⟨rfl, rfl⟩, sameTables_settle ⟨rfl, rfl, rfl⟩,
      sameNotices_settle ?_,
      sameManagement_settle ⟨rfl, Outbound.raise_replySlot ..⟩, sameDrive_settle rfl, sameRest_settle ⟨rfl, ?_, rfl,
      rfl⟩⟩
    · rw [settle_head, State.head_modHead_same, State.stale, State.head_raise, HeadRecord.signOfLife_eq]
    · exact Outbound.raise_notices ..
    · exact Outbound.raise_enables ..
  refine ⟨fun other p => ⟨_, act_runs s runs, ?_⟩, fun k beyond stop => ⟨_, act_runs s runs, ?_⟩⟩
  · rw [completeEffect, HeadRecord.matching_none other]
    exact staled .complete
  · rw [haltedEffect, HeadRecord.matchingHalted_none beyond]
    exact staled .halted

/-! #### Matching reports (R92, R94, R95) -/

/-- A report is a sign of life too: a running status-gap timer starts anew (R98, R112). -/
theorem HeadRecord.reportTaken_alive {hd : HeadRecord} (live : hd.state ≠ .off) (p : Point) (e : Position)
    (m : Monitor) :
    ({ hd.reportTaken p with chainEnd := e, monitor := m }).signOfLife =
      { hd.afterReport p with chainEnd := e, monitor := m } := by
  have state : (hd.reportTaken p).state ≠ .off := by
    simp only [HeadRecord.reportTaken, HeadRecord.afterReport]
    split
    · nofun
    · exact live
  have timer : (hd.reportTaken p).gapRestarted = (hd.afterReport p).gapTimer := by
    simp only [HeadRecord.gapRestarted, HeadRecord.reportTaken, HeadRecord.afterReport]
    cases hd.inFlight.tail <;> rfl
  have alive := HeadRecord.signOfLife_live (hd := { hd.reportTaken p with chainEnd := e, monitor := m }) state
  refine alive.trans ?_
  show { hd.reportTaken p with chainEnd := e, monitor := m, gapTimer := (hd.reportTaken p).gapRestarted } = _
  rw [timer]
  rfl

/-- A record known but for its monitor. -/
theorem HeadRecord.eq_with_monitor {x hd : HeadRecord} {m : Monitor} (e : x = { hd with monitor := m }) :
    x = { hd with monitor := x.monitor } := by
  subst e
  rfl

/-- The state after a matching COMPLETE (R92). -/
theorem completeEffect_matching (oldest : (s.head h).inFlight.head? = some r) :
    completeEffect h r.issue s = (((s.recordGone h r (r.pathLength + 1) .complete none).derateNoted h r).withReply
      (s.replyAfterReport h r.stroke.finish)).modHead h fun hd =>
        ({ hd.reportTaken r.stroke.finish with monitor := hd.steppedDown r }).signOfLife := by
  rw [completeEffect, HeadRecord.matching_some oldest]
  simp only
  rw [State.takeComplete_eq, State.modHead_modHead]

/-- The state after a matching HALTED (R94). -/
theorem haltedEffect_matching {k : Nat} {stop : Point} (oldest : (s.head h).inFlight.head? = some r)
    (within : k ≤ r.pathLength + 1) :
    haltedEffect h r.issue k stop s =
      ((s.recordGone h r k .halted (some k)).withReply (s.replyAfterReport h stop)).modHead h fun hd =>
        ({ hd.reportTaken stop with
          chainEnd := if hd.inFlight.tail = [] then ⟨stop, true⟩ else hd.chainEnd }).signOfLife := by
  rw [haltedEffect, HeadRecord.matchingHalted_some oldest within]
  simp only
  rw [State.takeHalted_eq, State.modHead_modHead]

theorem State.noticesWith_eq (s : State) (r : InFlight) (outcome : StrokeOutcome) (cells : Option Nat) :
    (s.out.notices ++ r.notices outcome cells).map QueuedNotice.notice = s.noticesWith r outcome cells := by
  rw [List.map_append, State.noticesWith, State.noticeContents, InFlight.notices]
  split <;> rfl

theorem State.derateNoted_notices (u : State) (h : Head) (r : InFlight) :
    (u.derateNoted h r).out.notices = u.out.notices ∧ (u.derateNoted h r).out.enables = u.out.enables := by
  show (if _ then _ else _ : Outbound).notices = _ ∧ (if _ then _ else _ : Outbound).enables = _
  split
  · exact ⟨Outbound.raise_notices .., Outbound.raise_enables ..⟩
  · exact ⟨rfl, rfl⟩

/-- Settles O44: the state after each report in closed form, field by field. -/
theorem matchingReportMovesTheHead : Obligations.MatchingReportMovesTheHead := by
  intro h r s runs law oldest hd emptied reply follows
  have live : (s.head h).state ≠ .off := fun off => by
    rw [law.2.1 (.inl off)] at oldest
    cases oldest
  have replied (p : Point) : s.replyAfterReport h p = reply p := rfl
  have moved {u : State} {f : HeadRecord → HeadRecord} (heads : u.heads = s.heads) (block : u.block = s.block)
      (grades : u.grades = s.grades) (windows : u.windows = s.windows) (sources : u.sources = s.sources)
      (drive : u.driveFrames = s.framesWithdrawn h r.issue)
        (occasions : u.occasions = s.occasions ++ s.kept [.pass none])
      (waitList : u.waitList = s.waitList) (mgmt : u.mgmt = s.mgmt) (pins : u.pins = s.pins)
      (enables : u.out.enables = s.out.enables) (counters : u.counters = s.counters) (pending : u.pending = s.pending) :
      follows (settle (u.modHead h f)) :=
    ⟨sameOtherHeads_settle fun g hg => by rw [State.head_modHead, if_neg hg]; exact State.head_of_heads g heads,
      (settle_block _).trans block, sameTables_settle ⟨grades, windows, sources⟩, (settle_driveFrames _).trans drive,
      (settle_occasions _).trans occasions, (settle_waitList _).trans waitList, (settle_mgmt _).trans mgmt,
      sameRest_settle ⟨pins, enables, counters, pending⟩⟩
  refine ⟨fun p => ⟨_, act_runs s runs, ?_⟩, fun k stop within => ⟨_, act_runs s runs, ?_⟩⟩
  · obtain ⟨notices, enables⟩ := (s.recordGone h r (r.pathLength + 1) .complete none).derateNoted_notices h r
    rw [completeEffect_matching oldest]
    refine ⟨?_, ?_, (settle_replySlot _).trans (replied _), moved (by simp) (by simp) (by simp) (by simp) (by simp)
      (by rfl) (by simp) (by simp) (by simp) (by simp)
        enables (by simp) (by simp)⟩
    · refine HeadRecord.eq_with_monitor (m := (s.head h).steppedDown r) ?_
      rw [settle_head, State.head_modHead_same, State.head_of_heads (s := s) h (by simp)]
      exact HeadRecord.reportTaken_alive live r.stroke.finish (s.head h).chainEnd ((s.head h).steppedDown r)
    · rw [settle_noticeContents]
      exact (congrArg (List.map QueuedNotice.notice) notices).trans (s.noticesWith_eq r .complete none)
  · rw [haltedEffect_matching oldest within]
    refine ⟨?_, ?_, (settle_replySlot _).trans (replied _), sameEvents_settle rfl,
      moved (by simp) (by simp) (by simp) (by simp) (by simp) (by rfl) (by simp) (by simp) (by simp) (by simp)
        (by simp) (by simp) (by simp)⟩
    · rw [settle_head, State.head_modHead_same, State.head_of_heads (s := s) h (by simp)]
      exact HeadRecord.reportTaken_alive live _ _ (s.head h).monitor
    · rw [settle_noticeContents]
      exact s.noticesWith_eq r .halted (some k.toNat)

/-! #### The step-down and the stall run (R107 to R111) -/

/-- An occurrence looks at the pending slots and the class enables alone (R170). -/
theorem Outbound.raise_events_congr {o o' : Outbound} {cls : EventClass} {d : Details} (events : o'.events = o.events)
    (enables : o'.enables = o.enables) : (o'.raise cls d).events = (o.raise cls d).events := by
  simp only [Outbound.raise, events, enables]
  split
  · exact events
  · split
    · rfl
    · rfl

/-- What a matching COMPLETE does to its head's monitor and to the pending slots (R107, R108). -/
theorem completeEffect_stepsDown (oldest : (s.head h).inFlight.head? = some r) :
    ((settle (completeEffect h r.issue s)).head h).monitor = (s.head h).steppedDown r ∧
      (settle (completeEffect h r.issue s)).eventContents = if (s.head h).stepsDown r then
        s.eventsWith (.ofHead .derateChange h) (.derateChange ((s.head h).monitor.derate - 1) r.issue)
        else s.eventContents := by
  rw [completeEffect_matching oldest]
  constructor
  · rw [settle_head, State.head_modHead_same, State.head_of_heads (s := s) h (by simp), HeadRecord.signOfLife_eq]
  · rw [settle_eventContents, State.eventContents, State.modHead_out, State.withOut_out]
    show List.map EventSlot.content (if _ then _ else _ : Outbound).events = _
    rw [State.head_of_heads (s := s) h (by simp)]
    split
    · exact congrArg (List.map EventSlot.content) (Outbound.raise_events_congr (by rfl) (by rfl))
    · rfl

/-- Settles O31: the step-down is due for a clean CUT stroke of a derated head at the step-down count. -/
theorem cleanCompletionsStepDown : Obligations.CleanCompletionsStepDown := by
  intro h r p s runs oldest m
  obtain ⟨monitor, events⟩ := completeEffect_stepsDown oldest
  refine ⟨settle (completeEffect h r.issue s), act_runs s runs, ?_⟩
  rw [SameEvents, monitor, events]
  refine ⟨fun travel => ?_, fun cut high => ?_, fun cut clean top => ?_, fun cut clean derated short => ?_,
    fun cut clean derated due => ?_⟩
  · simp [HeadRecord.steppedDown, HeadRecord.stepsDown, travel, m]
  · simp [HeadRecord.steppedDown, HeadRecord.stepsDown, cut, high, m]
  · have top : (s.head h).monitor.derate = 0 := top
    simp [HeadRecord.steppedDown, HeadRecord.stepsDown, cut, clean, top, m]
  · have derated : (s.head h).monitor.derate ≠ 0 := Nat.ne_of_gt derated
    have short : ¬ (s.head h).monitorSettings.stepDownCount ≤ (s.head h).monitor.cleanCount + 1 := Nat.not_le.mpr short
    simp [HeadRecord.steppedDown, HeadRecord.stepsDown, cut, clean, derated, short, m]
  · have derated : (s.head h).monitor.derate ≠ 0 := Nat.ne_of_gt derated
    have due : (s.head h).monitorSettings.stepDownCount ≤ (s.head h).monitor.cleanCount + 1 := due
    simp [HeadRecord.steppedDown, HeadRecord.stepsDown, cut, clean, derated, due, m]

end Sys2Proof.Machine

/-! ### The stall run (R109 to R111) -/

namespace Sys2Proof.Machine

variable {s t u : State} {h : Head} {r : InFlight}

/-! #### What the reports and the admission leave of the runs (R110) -/

/-- The runs of a head (R104, R106, R109). -/
def HeadRecord.runs (hd : HeadRecord) : Nat × Nat × Nat := (hd.monitor.stallRun, hd.monitor.highRun, hd.monitor.lowRun)

/-- The runs of every head are as they were. -/
def SameRuns (s t : State) : Prop := ∀ g, (t.head g).runs = (s.head g).runs

theorem SameRuns.of_heads (heads : t.heads = s.heads) : SameRuns s t := fun g => by rw [State.head_of_heads g heads]

theorem SameRuns.trans (a : SameRuns s t) (b : SameRuns t u) : SameRuns s u := fun g => (b g).trans (a g)

theorem SameRuns.modHead {f : HeadRecord → HeadRecord} (heads : u.heads = s.heads)
    (runs : (f (s.head h)).runs = (s.head h).runs) : SameRuns s (u.modHead h f) := fun g => by
  rw [State.head_modHead, State.head_of_heads g heads]
  split
  · next e => subst e; exact runs
  · rfl

theorem SameRuns.evaluate (s : State) (h : Head) : SameRuns s (s.evaluate h) := by
  rw [State.evaluate]
  cases queue : (s.head h).queue with
  | nil => exact .of_heads rfl
  | cons q rest =>
    simp only
    split
    any_goals exact .of_heads rfl
    · exact .of_heads (by simp)
    · exact .of_heads (by simp)
    · rw [State.refuseStroke_eq]
      exact .modHead (by simp) rfl
    · rw [State.issueStroke_eq _ _ _ _ _ (by simp [queue])]
      exact .modHead (by simp) rfl

theorem SameRuns.foldl_evaluate (l : List Head) (s : State) : SameRuns s (l.foldl (fun u h => u.evaluate h) s) := by
  induction l generalizing s with
  | nil => exact .of_heads rfl
  | cons h l ih => exact (SameRuns.evaluate s h).trans (ih _)

theorem SameRuns.alive (s : State) (h : Head) : SameRuns s (s.modHead h HeadRecord.signOfLife) :=
  .modHead rfl (by rw [HeadRecord.signOfLife_eq]; rfl)

theorem SameRuns.complete (h : Head) (issue : Byte) (s : State) : SameRuns s (completeEffect h issue s) := by
  rw [completeEffect]
  split
  · next r _ =>
    refine SameRuns.trans ?_ (.alive _ h)
    rw [State.takeComplete_eq]
    refine .modHead (by simp) ?_
    obtain ⟨high, low, stall⟩ := (s.head h).steppedDown_runs r
    simp [HeadRecord.runs, high, low, stall]
  · exact SameRuns.trans (.of_heads rfl) (.alive _ h)

theorem SameRuns.halted (h : Head) (issue : Byte) (k : Nat) (stop : Point) (s : State) :
    SameRuns s (haltedEffect h issue k stop s) := by
  rw [haltedEffect]
  split
  · refine SameRuns.trans ?_ (.alive _ h)
    rw [State.takeHalted_eq]
    exact .modHead (by simp) rfl
  · exact SameRuns.trans (.of_heads rfl) (.alive _ h)

theorem SameRuns.evaluation (h : Head) (s : State) : SameRuns s (evaluationEffect h s) := by
  rw [evaluationEffect]
  split
  · split
    · exact SameRuns.trans (.of_heads rfl) (.evaluate _ h)
    · exact .of_heads rfl
  all_goals exact .of_heads rfl

theorem SameRuns.pass (s : State) : SameRuns s (passEffect s) := by
  rw [passEffect]
  split
  · exact SameRuns.trans (.of_heads rfl) (.foldl_evaluate _ _)
  all_goals exact .of_heads rfl

/-- A command whose effect leaves the runs leaves them. -/
theorem SameRuns.exec {c : Instr} (ht : exec c s = .next t) (low : c ≠ .resetPinLow) (power : c ≠ .powerOnReset)
    (effect : SameRuns s (effectOf c s)) : SameRuns s t := by
  obtain ⟨is, -⟩ | ⟨is, -⟩ | ⟨-, level, rfl⟩ | ⟨-, -, -, rfl⟩ := exec_cases ht
  · exact absurd is low
  · exact absurd is power
  · exact .of_heads rfl
  · exact effect.trans (.of_heads (settle_heads _))

/-- Settles O30: the cycle check in closed form, a checked sample that comes to it, and the runs over the other
commands. -/
theorem stallRunFaultsBladeStall : Obligations.StallRunFaultsBladeStall := by
  refine ⟨fun h r cycles ms s takes oldest => ⟨fun (reached : _ ≤ s.stallRunAfter h r cycles ms) => ?_,
      fun (short : s.stallRunAfter h r cycles ms < _) => ?_⟩,
    fun h r drag cycles ms s runs checked => ?_, fun c h g issue k p s t is ht => ?_⟩
  · rw [State.cycleCheck_eq, if_pos reached, State.handFault_takes]
    · exact faultEntered_settle .bladeStall (some r.issue) 0 rfl rfl rfl
    · rw [State.head_modHead_same]
      exact takes
  · rw [State.cycleCheck_eq, if_neg (Nat.not_le.mpr short)]
    rfl
  · intro dragged live
    refine (act_runs s runs).trans (congrArg Host.Outcome.next (congrArg settle ?_))
    rw [statusEffect_checked _ _ _ checked, State.sample]
    exact if_neg live
  · have same : SameRuns s t := by
      obtain rfl | rfl | rfl | rfl := is
      · exact .exec ht nofun nofun (.complete h issue s)
      · exact .exec ht nofun nofun (.halted h issue _ p s)
      · exact .exec ht nofun nofun (.evaluation h s)
      · exact .exec ht nofun nofun (.pass s)
    have runs := same g
    simp only [HeadRecord.runs, Prod.mk.injEq] at runs
    exact runs

end Sys2Proof.Machine

/-! ### The cells that a report commits and a resolution takes (R41, R47, R91, R137) -/

namespace Sys2Proof.Machine

open Sys2Proof.Laws

variable {s : State}

/-! #### The cells of a path -/

/-- A cell changed by the path height at it, if the path crosses it (R41). -/
def Cell.crossed (f : Nat → Cell → Cell) (height : Option Nat) (x : Cell) : Cell := height.elim x fun z => f z x

theorem Cell.crossed_commit (height : Option Nat) (x : Cell) :
    x.crossed Cell.commit height = { x with kerfFloor := loweredTo x.kerfFloor height } := by
  cases height <;> rfl

theorem Cell.crossed_resolve (height : Option Nat) (x : Cell) :
    x.crossed Cell.resolve height = { x with
      kerfFloor := loweredTo x.kerfFloor height
      unsure := x.unsure || loweredTo x.kerfFloor height < x.kerfFloor } := by
  cases height with
  | none => simp [Cell.crossed, loweredTo]
  | some z =>
    show x.resolve z = _
    rw [Cell.resolve]
    by_cases below : z < x.kerfFloor
    · have lowered : loweredTo x.kerfFloor (some z) = z := Nat.min_eq_right (Nat.le_of_lt below)
      simp [lowered, below]
    · have lowered : loweredTo x.kerfFloor (some z) = x.kerfFloor := Nat.min_eq_left (Nat.not_lt.mp below)
      simp [lowered, below]

/-- A cell of the map after an edit of each cell of a path, none of which stands twice in it (R40, R91). -/
theorem read_foldl_path {top : Nat} (f : Nat → Cell → Cell) {c : CellRef} (narrow : c.column < 256) (l : List PathCell)
    (columns : ∀ p ∈ l, p.cell.column < 256) (once : (l.map PathCell.cell).Nodup) {m : CutMap} (hm : CutMap.wf top m) :
    CutMap.wf top (l.foldl (fun m p => CutMap.modify top (f p.height) p.cell.address m) m) ∧
      CutMap.read top (l.foldl (fun m p => CutMap.modify top (f p.height) p.cell.address m) m) c.address =
        (CutMap.read top m c.address).crossed f ((l.find? fun p => p.cell == c).map PathCell.height) := by
  induction l generalizing m with
  | nil => exact ⟨hm, rfl⟩
  | cons p l ih =>
    obtain ⟨fresh, once⟩ := List.nodup_cons.mp once
    obtain ⟨wf, read⟩ := ih (fun q hq => columns q (List.mem_cons_of_mem _ hq)) once
      (CutMap.wf_modify hm : CutMap.wf top (CutMap.modify top (f p.height) p.cell.address m))
    refine ⟨wf, read.trans ?_⟩
    rw [CutMap.read_modify hm]
    by_cases here : p.cell = c
    · have gone : (l.find? fun q => q.cell == c) = none := List.find?_eq_none.mpr fun q hq same =>
        fresh (List.mem_map.mpr ⟨q, hq, (beq_iff_eq.mp same).trans here.symm⟩)
      rw [gone, List.find?_cons_of_pos (by simpa using here), if_pos (by rw [here])]
      rfl
    · have apart : c.address ≠ p.cell.address := fun e =>
        here (CutMap.address_inj (columns p List.mem_cons_self) narrow e.symm)
      rw [List.find?_cons_of_neg (by simpa using here), if_neg apart]

section
variable {h : Head} {r : InFlight} {m : CutMap} {c : CellRef}

/-- The map is canonical and narrow enough to keep addresses apart, and a record's stroke lies in the block. -/
structure State.Crosses (s : State) (r : InFlight) : Prop where
  columns : s.block.columns ≤ 256
  start : inBlock s.block r.stroke.start = true
  finish : inBlock s.block r.stroke.finish = true
  length : r.pathLength = pathLength s.block r.stroke

theorem State.crosses_of_flight (block : s.BlockLaw) (flight : s.FlightInBlock) (hr : r ∈ (s.head h).inFlight) :
    s.Crosses r := by
  obtain ⟨start, finish, length⟩ := flight h r hr
  exact ⟨block.columns_le, start, finish, length⟩

theorem State.Crosses.path_narrow (hr : s.Crosses r) : ∀ p ∈ path s.block r.stroke, p.cell.column < 256 := by
  intro p hp
  have inMap := path_inMap hr.start hr.finish hp
  simp only [CellRef.inMap, Bool.and_eq_true, decide_eq_true_eq] at inMap
  exact Nat.lt_of_lt_of_le inMap.1 hr.columns

/-- A cell after the commit of path cells 0 to k − 1 (R91). -/
theorem State.Crosses.read_committed (hr : s.Crosses r) (hm : CutMap.wf s.block.top m) (narrow : c.column < 256)
    (k : Nat) :
    CutMap.wf s.block.top (s.cellsCommitted r k m) ∧
      CutMap.read s.block.top (s.cellsCommitted r k m) c.address = { CutMap.read s.block.top m c.address with
        kerfFloor := if r.stroke.kind = .cut
          then loweredTo (CutMap.read s.block.top m c.address).kerfFloor (heightAt s.block r.stroke k c)
          else (CutMap.read s.block.top m c.address).kerfFloor } := by
  rw [State.cellsCommitted]
  cases r.stroke.kind with
  | travel => exact ⟨hm, rfl⟩
  | cut =>
    obtain ⟨wf, read⟩ := read_foldl_path Cell.commit narrow ((path s.block r.stroke).take k)
      (fun p hp => hr.path_narrow p (List.mem_of_mem_take hp))
      ((path_cells_nodup s.block r.stroke).sublist ((List.take_sublist k _).map _)) hm
    exact ⟨wf, read.trans (Cell.crossed_commit _ _)⟩

/-- A cell after its stroke has been taken as cut to the end (R137). -/
theorem State.Crosses.read_resolved (hr : s.Crosses r) (hm : CutMap.wf s.block.top m) (narrow : c.column < 256) :
    let x := CutMap.read s.block.top m c.address
    let kerf := if r.stroke.kind = .cut then loweredTo x.kerfFloor (heightAt s.block r.stroke (r.pathLength + 1) c)
      else x.kerfFloor
    CutMap.wf s.block.top (s.cellsResolved r m) ∧ CutMap.read s.block.top (s.cellsResolved r m) c.address =
      { x with kerfFloor := kerf, unsure := x.unsure || kerf < x.kerfFloor } := by
  have whole : (path s.block r.stroke).take (r.pathLength + 1) = path s.block r.stroke := by
    rw [hr.length, ← path_length s.block r.stroke, List.take_length]
  rw [State.cellsResolved, heightAt, whole]
  cases r.stroke.kind with
  | travel => exact ⟨hm, by simp⟩
  | cut =>
    obtain ⟨wf, read⟩ := read_foldl_path Cell.resolve narrow (path s.block r.stroke) hr.path_narrow
      (path_cells_nodup s.block r.stroke) hm
    exact ⟨wf, read.trans (Cell.crossed_resolve _ _)⟩

/-- A cell after the claims of a record have been released (R47). -/
theorem read_released (columns : s.block.columns ≤ 256) (hm : CutMap.wf s.block.top m) (narrow : c.column < 256) :
    let x := CutMap.read s.block.top m c.address
    let left := if (s.recordFootprint r).contains c then x.count - 1 else x.count
    CutMap.read s.block.top (s.cellsReleased r m) c.address =
      { x with count := left, owner := if (s.recordFootprint r).contains c ∧ left = 0 then none else x.owner } := by
  rw [State.cellsReleased]
  simp only [State.recordFootprint, List.contains_iff_mem]
  rw [read_modifyAll_footprint hm columns _ _ _ narrow]
  by_cases held : c ∈ footprint s.block r.stroke r.guard
  · simp [held, Cell.release]
  · simp [held]

/-- A cell after a matching report (R47, R91). -/
theorem State.Crosses.read_reported (hr : s.Crosses r) (map : s.MapLaw) (narrow : c.column < 256) (k : Nat) :
    CutMap.read s.block.top (s.cellsReleased r (s.cellsCommitted r k s.cells)) c.address = s.cellAfterReport r k c := by
  obtain ⟨wf, read⟩ := hr.read_committed map narrow k
  rw [read_released hr.columns wf narrow, read]
  rfl

/-- A cell after the resolution of records, one after another (R47, R137). -/
theorem read_allResolved (l : List InFlight) (cross : ∀ r ∈ l, s.Crosses r) (hm : CutMap.wf s.block.top m)
    (narrow : c.column < 256) :
    CutMap.read s.block.top (l.foldl (fun m r => s.cellsReleased r (s.cellsResolved r m)) m) c.address =
      l.foldl (fun x r => s.cellResolved c x r) (CutMap.read s.block.top m c.address) := by
  induction l generalizing m with
  | nil => rfl
  | cons r l ih =>
    have hr := cross r List.mem_cons_self
    obtain ⟨wf, read⟩ := hr.read_resolved hm narrow
    rw [List.foldl_cons, List.foldl_cons, ih (fun q hq => cross q (List.mem_cons_of_mem _ hq))
      (State.Edited.wf (s := s) (State.Edited.released r _) wf), read_released hr.columns wf narrow, read]
    rfl

end

/-- Settles O45: each report and CLEAR_HEAD edit the cut map cell by cell. -/
theorem cellsAfterReportsAndClears : Obligations.CellsAfterReportsAndClears := by
  refine ⟨fun h r s runs oldest block _ flight map => ⟨fun p => ⟨_, act_runs s runs, fun c narrow => ?complete⟩,
    fun k stop within => ⟨_, act_runs s runs, fun c narrow => ?halted⟩⟩,
    fun hdr ops s listens fault go block _ flight map => ⟨_, manage_taken listens, fun c narrow => ?cleared⟩⟩
  case complete =>
    have cross := s.crosses_of_flight block flight (List.mem_of_mem_head? oldest)
    rw [completeEffect_matching oldest, State.cell, settle_block, settle_cells]
    exact cross.read_reported map narrow _
  case halted =>
    have cross := s.crosses_of_flight block flight (List.mem_of_mem_head? oldest)
    rw [haltedEffect_matching oldest within, State.cell, settle_block, settle_cells]
    exact cross.read_reported map narrow _
  case cleared =>
    rw [clearHeadEffect, State.head_withMgmt, if_neg (Classical.not_not.mpr fault), State.withMgmt_pins, if_neg (by simp [go]),
      State.resolveAll_restore_eq, State.raiseOccasion_eq, State.answer_withOccasions, State.cell, settle_block,
      settle_cells]
    have cells := read_allResolved (c := c) (s.head ops.head).inFlight
      (fun r hr => s.crosses_of_flight block flight hr) map narrow
    exact cells

end Sys2Proof.Machine

/-! ### The admission checks in the words of the spec (R53, R59, R63 to R79) -/

namespace Sys2Proof.Machine

variable {s : State} {h : Head} {q : QueuedStroke} {st : Stroke}

/-! #### Checks 1 to 7 -/

theorem State.blockReady_iff : s.blockReady = true ↔ s.block.state = .loaded ∧ s.block.unloadVisit = false := by
  simp [State.blockReady]

/-- A head that checks 1 to 3 do not pass waits (R64, R65). -/
theorem State.verdict_unadmitted (blocked : ¬ s.HeadAdmits h) :
    s.verdict h q = .waitNoBlock ∨ s.verdict h q = .waitHead ∨ s.verdict h q = .waitInFlight := by
  rw [State.verdict]
  by_cases ready : s.blockReady = true
  · by_cases admits : (s.head h).state.admits = true
    · have full : 2 ≤ (s.head h).inFlight.length := by
        refine Classical.byContradiction fun room => ?_
        exact blocked ⟨(State.blockReady_iff.mp ready).1, (State.blockReady_iff.mp ready).2,
          (HeadState.admits_iff _).mp admits, by omega⟩
      simp [ready, admits, full]
    · simp [ready, admits]
  · simp [ready]

/-- A head that checks 1 to 3 pass comes to its stroke (R63). -/
theorem State.HeadAdmits.passes (admits : s.HeadAdmits h) :
    s.blockReady = true ∧ (s.head h).state.admits = true ∧ ¬ 2 ≤ (s.head h).inFlight.length := by
  obtain ⟨loaded, noVisit, state, room⟩ := admits
  exact ⟨State.blockReady_iff.mpr ⟨loaded, noVisit⟩, (HeadState.admits_iff _).mpr state, by omega⟩

/-- Check 4 (R66). -/
theorem State.verdict_noPosition (admits : s.HeadAdmits h) (unknown : (s.head h).chainEnd.valid = false) :
    s.verdict h q = .refuse .noPosition := by
  obtain ⟨ready, state, room⟩ := admits.passes
  simp only [State.verdict, ready, state, unknown, if_neg room]
  rfl

/-- Check 5 (R66). -/
theorem State.verdict_discontinuous (admits : s.HeadAdmits h) (known : (s.head h).chainEnd.valid = true)
    (apart : q.stroke.start ≠ (s.head h).chainEnd.point) : s.verdict h q = .refuse .discontinuous := by
  obtain ⟨ready, state, room⟩ := admits.passes
  simp only [State.verdict, ready, state, known, if_neg room, if_pos apart]
  rfl

/-- Check 6 (R67). -/
theorem State.verdict_outOfBlock (admits : s.HeadAdmits h) (starts : s.StartsInPlace h q.stroke)
    (outside : ¬ (inBlock s.block q.stroke.start = true ∧ inBlock s.block q.stroke.finish = true)) :
    s.verdict h q = .refuse .outOfBlock := by
  obtain ⟨ready, state, room⟩ := admits.passes
  have out : (!(inBlock s.block q.stroke.start && inBlock s.block q.stroke.finish)) = true := by
    rw [Bool.not_eq_true', ← Bool.not_eq_true, Bool.and_eq_true]
    exact outside
  simp only [State.verdict, ready, state, starts.1, if_neg room, if_neg (Classical.not_not.mpr starts.2), out]
  rfl

/-- Check 7 (R67). -/
theorem State.verdict_tooLong (admits : s.HeadAdmits h) (starts : s.StartsInPlace h q.stroke)
    (inside : inBlock s.block q.stroke.start = true ∧ inBlock s.block q.stroke.finish = true)
    (long : 255 < pathLength s.block q.stroke) : s.verdict h q = .refuse .tooLong := by
  obtain ⟨ready, state, room⟩ := admits.passes
  simp only [State.verdict, ready, state, starts.1, if_neg room, if_neg (Classical.not_not.mpr starts.2), inside.1, inside.2,
    if_pos long]
  rfl

/-- With checks 1 to 7 passed the rating decides (R63). -/
theorem State.verdict_refusedRating {reason : RefusalReason} (admits : s.HeadAdmits h)
    (starts : s.StartsInPlace h q.stroke)
    (lies : s.LiesInBlock q.stroke) (rated : s.rate h q.stroke = .error reason) : s.verdict h q = .refuse reason := by
  obtain ⟨ready, state, room⟩ := admits.passes
  obtain ⟨start, finish, length⟩ := lies
  simp only [State.verdict, ready, state, starts.1, if_neg room, if_neg (Classical.not_not.mpr starts.2), start, finish,
    if_neg (Nat.not_lt.mpr length), rated]
  rfl

theorem State.verdict_rated {rating : Rating} (admits : s.HeadAdmits h) (starts : s.StartsInPlace h q.stroke)
    (lies : s.LiesInBlock q.stroke) (rated : s.rate h q.stroke = .ok rating) :
    s.verdict h q = s.clearToIssue h q rating := by
  obtain ⟨ready, state, room⟩ := admits.passes
  obtain ⟨start, finish, length⟩ := lies
  simp only [State.verdict, ready, state, starts.1, if_neg room, if_neg (Classical.not_not.mpr starts.2), start, finish,
    if_neg (Nat.not_lt.mpr length), rated]
  rfl

/-! #### The rating of a TRAVEL stroke (R68, R77) -/

theorem deepest_lt_iff {z : Nat} : deepest st < z ↔ ¬ (z ≤ st.start.z.toNat ∧ z ≤ st.finish.z.toNat) := by
  rw [deepest]
  omega

/-- Checks 8 and 12 (R68, R77). -/
theorem State.rate_travel (travel : st.kind = .travel) :
    (¬ s.ClearsBlock h st → s.rate h st = .error .badTravel) ∧
      (s.ClearsBlock h st → min st.feed.toNat (s.head h).settings.travelMax = 0 → s.rate h st = .error .feedZero) ∧
      ∀ rating, s.ClearsBlock h st → s.TravelRating h st rating → 1 ≤ rating.feed → s.rate h st = .ok rating := by
  have rate : s.rate h st = s.rateTravel h st := by rw [State.rate, travel]
  rw [rate, State.rateTravel]
  refine ⟨fun low => if_pos (deepest_lt_iff.mpr low), fun clear zero => ?_, fun rating clear rated feed => ?_⟩
  · exact (if_neg (mt deepest_lt_iff.mp (Classical.not_not.mpr clear))).trans (if_pos zero)
  · obtain ⟨dominant, window, feeds⟩ := rated
    refine (if_neg (mt deepest_lt_iff.mp (Classical.not_not.mpr clear))).trans ((if_neg (by omega)).trans ?_)
    rw [← feeds, ← dominant, ← window]

/-! #### The rating of a CUT stroke (R69, R70, R73 to R76) -/

/-- One grade is at least as good a candidate for the dominant grade as another (R74). -/
def Outranks (table : Vector GradeEntry 16) (g g' : Nat) : Prop :=
  (gradeEntry table g).bite < (gradeEntry table g').bite ∨
    (gradeEntry table g).bite = (gradeEntry table g').bite ∧ g ≤ g'

theorem Outranks.refl (table : Vector GradeEntry 16) (g : Nat) : Outranks table g g := .inr ⟨rfl, Nat.le_refl g⟩

theorem Outranks.trans {table : Vector GradeEntry 16} {a b c : Nat} (ab : Outranks table a b)
    (bc : Outranks table b c) :
    Outranks table a c := by
  simp only [Outranks] at ab bc ⊢
  omega

theorem Outranks.antisymm {table : Vector GradeEntry 16} {a b : Nat} (ab : Outranks table a b)
    (ba : Outranks table b a) :
    a = b := by
  simp only [Outranks] at ab ba
  omega

theorem dominates_iff {table : Vector GradeEntry 16} {g best : Nat} :
    dominates table g best = true ↔ ¬ Outranks table best g := by
  simp only [dominates, Bool.or_eq_true, Bool.and_eq_true, decide_eq_true_eq, beq_iff_eq, Outranks]
  omega

/-- The dominant grade is one of the list and outranks each of it (R74). -/
theorem foldl_dominant (table : Vector GradeEntry 16) (l : List Nat) (best : Nat) :
    let d := l.foldl (fun best g => if dominates table g best then g else best) best
    (d = best ∨ d ∈ l) ∧ Outranks table d best ∧ ∀ g ∈ l, Outranks table d g := by
  induction l generalizing best with
  | nil => exact ⟨.inl rfl, .refl table best, nofun⟩
  | cons g l ih =>
    have step : Outranks table (if dominates table g best then g else best) best ∧
        Outranks table (if dominates table g best then g else best) g := by
      by_cases better : dominates table g best = true
      · rw [if_pos better]
        have : ¬ Outranks table best g := dominates_iff.mp better
        refine ⟨?_, .refl table g⟩
        simp only [Outranks] at this ⊢
        omega
      · rw [if_neg better]
        exact ⟨.refl table best, Classical.not_not.mp (mt dominates_iff.mpr better)⟩
    obtain ⟨mem, first, all⟩ := ih (if dominates table g best then g else best)
    refine ⟨?_, first.trans step.1, fun x hx => ?_⟩
    · obtain same | mem := mem
      · rw [List.foldl_cons, same]
        split
        · exact .inr List.mem_cons_self
        · exact .inl rfl
      · exact .inr (List.mem_cons_of_mem _ mem)
    · obtain rfl | hx := List.mem_cons.mp hx
      · exact first.trans step.2
      · exact all x hx

theorem dominantGrade_eq {table : Vector GradeEntry 16} {l : List Nat} {g : Nat} (mem : g ∈ l)
    (best : ∀ g' ∈ l, Outranks table g g') : dominantGrade table l = g := by
  cases l with
  | nil => cases mem
  | cons x l =>
    obtain ⟨found, first, all⟩ := foldl_dominant table l x
    have dominant : Outranks table (dominantGrade table (x :: l)) g := by
      obtain rfl | mem := List.mem_cons.mp mem
      · exact first
      · exact all g mem
    refine dominant.antisymm (best _ ?_)
    obtain same | mem := found
    · exact List.mem_cons.mpr (.inl same)
    · exact List.mem_cons_of_mem _ mem

theorem deratePercent_eq (level : Nat) : [100, 75, 50, 25].getD level 25 = deratePercent level := by
  match level with
  | 0 | 1 | 2 | 3 => rfl
  | level + 4 => rfl

/-- A rating of the spec is the one that the machine works out (R74, R76). -/
theorem State.CutRating.eq {rating : Rating} (rated : s.CutRating h st rating) :
    let entry := gradeEntry s.grades (dominantGrade s.grades (s.gradesMet st))
    rating = ⟨min st.feed.toNat (feedCap entry.bite (s.head h).settings.rate (s.head h).monitor.derate),
      some (dominantGrade s.grades (s.gradesMet st)), some ⟨entry.dragLow, entry.dragHigh⟩⟩ := by
  obtain ⟨g, mem, best, dominant, window, feed⟩ := rated
  obtain ⟨feed', dominant', window'⟩ := rating
  simp only at dominant window feed
  simp only [dominantGrade_eq mem best, feedCap, dominant, window, feed, deratePercent_eq]

/-- Checks 9 to 12 (R69, R70, R73 to R76). -/
theorem State.rate_cut (cut : st.kind = .cut) :
    (¬ s.ZonesAllowed h st → s.rate h st = .error .zoneDenied) ∧
      (s.ZonesAllowed h st → ¬ s.FloorsKept st → s.rate h st = .error .belowFloor) ∧
      (s.ZonesAllowed h st → s.FloorsKept st → ¬ s.GradesSet st → s.rate h st = .error .gradeUnset) ∧
      ∀ rating, s.ZonesAllowed h st → s.FloorsKept st → s.GradesSet st → s.CutRating h st rating →
        s.rate h st = if rating.feed = 0 then .error .feedZero else .ok rating := by
  have rate : s.rate h st = s.rateCut h st := by rw [State.rate, cut]
  have zones : ((path s.block st).any fun p => !zoneIn (s.head h).settings.zoneSet (s.cell p.cell).zone) = true ↔
      ¬ s.ZonesAllowed h st := by simp [State.ZonesAllowed, zoneIn]
  have floors : ((path s.block st).any fun p => decide (p.height < (s.cell p.cell).floorLimit)) = true ↔
      ¬ s.FloorsKept st := by simp [State.FloorsKept]
  have grades : ((s.gradesMet st).any fun g => !(gradeEntry s.grades g).set) = true ↔ ¬ s.GradesSet st := by
    simp [State.GradesSet]
  rw [rate, State.rateCut]
  refine ⟨fun denied => ?_, fun allowed below => ?_, fun allowed kept unset => ?_,
    fun rating allowed kept set rated => ?_⟩
  · exact if_pos (zones.mpr denied)
  · exact (if_neg (mt zones.mp (Classical.not_not.mpr allowed))).trans (if_pos (floors.mpr below))
  · exact (if_neg (mt zones.mp (Classical.not_not.mpr allowed))).trans ((if_neg (mt floors.mp (Classical.not_not.mpr kept))).trans
      (if_pos (grades.mpr unset)))
  · refine (if_neg (mt zones.mp (Classical.not_not.mpr allowed))).trans ((if_neg (mt floors.mp (Classical.not_not.mpr kept))).trans
      ((if_neg (mt grades.mp (Classical.not_not.mpr set))).trans ?_))
    rw [rated.eq]

/-- A stroke that passes checks 1 to 12 has its rating (R63). -/
theorem State.PassesRating.rated {rating : Rating}
    (passes : s.PassesRating h st rating) : s.rate h st = .ok rating := by
  obtain ⟨-, -, -, travel, cut, feed⟩ := passes
  cases kind : st.kind with
  | travel => exact (State.rate_travel kind).2.2 rating (travel kind).1 (travel kind).2 feed
  | cut =>
    obtain ⟨zones, floors, grades, rated⟩ := cut kind
    exact ((State.rate_cut kind).2.2.2 rating zones floors grades rated).trans (if_neg (by omega))

theorem State.PassesRating.verdict {rating : Rating} (passes : s.PassesRating h q.stroke rating) :
    s.verdict h q = s.clearToIssue h q rating :=
  State.verdict_rated passes.1 passes.2.1 passes.2.2.1 passes.rated

/-! #### Checks 13 to 15 (R48, R53, R78, R79) -/

theorem Cell.claimedByOther_iff {x : Cell} : x.claimedByOther h = true ↔ ∃ g,
    x.owner = some g ∧ g ≠ h ∧ x.count ≠ 0 := by
  rw [Cell.claimedByOther]
  cases x.owner with
  | none => simp
  | some g => simp [Nat.pos_iff_ne_zero]

theorem meets_iff {xs ys : List CellRef} : meets xs ys = true ↔ ∃ x ∈ xs, x ∈ ys := by
  simp [meets]

theorem State.claimed_iff : ((s.footprintNow h st).any fun c => (s.cell c).claimedByOther h) = true ↔
    ¬ s.Unclaimed h st := by
  simp only [List.any_eq_true, Cell.claimedByOther_iff, State.Unclaimed]
  grind

theorem State.yields_iff : ((s.olderWaiters h).any fun e => meets (s.footprintNow h st) e.footprint) = true ↔
    ¬ s.Unyielding h st := by
  simp only [List.any_eq_true, meets_iff, State.Unyielding]
  grind

/-- Check 13 fails (R78). -/
theorem State.clearToIssue_notice (rating : Rating) (notify : q.notify = true) (full : 16 ≤ s.slotsInUse) :
    s.clearToIssue h q rating = .waitNotice := by
  rw [State.clearToIssue, notify]
  exact if_pos (by simpa using full)

/-- Checks 14 and 15 (R48, R53, R79). -/
theorem State.clearToIssue_eq (rating : Rating) (slot : q.notify = true → s.slotsInUse < 16) :
    (¬ s.Unclaimed h q.stroke → s.clearToIssue h q rating = .waitClaim (s.footprintNow h q.stroke)) ∧
      (s.Unclaimed h q.stroke → ¬ s.Unyielding h q.stroke →
        s.clearToIssue h q rating = .waitYield (s.footprintNow h q.stroke)) ∧
      (s.Unclaimed h q.stroke → s.Unyielding h q.stroke →
        s.clearToIssue h q rating = .issue rating (s.footprintNow h q.stroke)) := by
  have room : ¬ (q.notify && decide (16 ≤ s.slotsInUse)) = true := by
    simp only [Bool.and_eq_true, decide_eq_true_eq, not_and]
    exact fun notify => Nat.not_le.mpr (slot notify)
  rw [State.clearToIssue]
  refine ⟨fun claimed => ?_, fun free yields => ?_, fun free clear => ?_⟩
  · exact (if_neg room).trans (if_pos (State.claimed_iff.mpr claimed))
  · exact (if_neg room).trans ((if_neg (mt State.claimed_iff.mp (Classical.not_not.mpr free))).trans
      (if_pos (State.yields_iff.mpr yields)))
  · exact (if_neg room).trans ((if_neg (mt State.claimed_iff.mp (Classical.not_not.mpr free))).trans
      (if_neg (mt State.yields_iff.mp (Classical.not_not.mpr clear))))

end Sys2Proof.Machine

/-! ### Evaluations and passes (R51 to R56, R59 to R80) -/

namespace Sys2Proof.Machine

variable {s : State} {h : Head} {q : QueuedStroke} {rating : Rating}

/-! #### One evaluation -/

section
variable (front : (s.head h).queue.head? = some q)

include front

/-- A verdict to wait without a record (R64, R65, R78). -/
theorem State.evaluate_of_wait (verdict : s.verdict h q = .waitNoBlock ∨ s.verdict h q = .waitHead ∨
    s.verdict h q = .waitInFlight ∨ s.verdict h q = .waitNotice) : s.evaluate h = s := by
  rw [State.evaluate, eq_cons_of_head? front]
  obtain verdict | verdict | verdict | verdict := verdict <;> simp only [verdict]

/-- A verdict to wait for a claim, or to yield (R51). -/
theorem State.evaluate_of_record {fp : List CellRef}
    (verdict : s.verdict h q = .waitClaim fp ∨ s.verdict h q = .waitYield fp) :
    s.evaluate h = s.recordWait h fp := by
  rw [State.evaluate, eq_cons_of_head? front]
  obtain verdict | verdict := verdict <;> simp only [verdict]

end

/-- An evaluation that stops at checks 1 to 3, at the notice check or on an empty queue (R59, R64, R65, R78). -/
theorem State.evaluate_waits (waits : (s.head h).queue = [] ∨ ¬ s.HeadAdmits h ∨ ∃ q rating,
    (s.head h).queue.head? = some q ∧ s.PassesRating h q.stroke rating ∧ q.notify = true ∧ 16 ≤ s.slotsInUse) :
    s.evaluate h = s := by
  obtain empty | blocked | ⟨q, rating, front, passes, notify, full⟩ := waits
  · rw [State.evaluate, empty]
  · cases queue : (s.head h).queue with
    | nil => rw [State.evaluate, queue]
    | cons q rest =>
      have verdict := State.verdict_unadmitted (q := q) blocked
      exact State.evaluate_of_wait (q := q) (by rw [queue]; rfl) (verdict.imp_right fun v => v.imp_right .inl)
  · exact State.evaluate_of_wait front (.inr (.inr (.inr
      (passes.verdict.trans (State.clearToIssue_notice rating notify full)))))

/-- An evaluation that waits for a claim or yields (R48, R51, R53). -/
theorem State.evaluate_records (front : (s.head h).queue.head? = some q) (passes : s.PassesRating h q.stroke rating)
    (slot : q.notify = true → s.slotsInUse < 16) (held : ¬ (s.Unclaimed h q.stroke ∧ s.Unyielding h q.stroke)) :
    s.evaluate h = s.recordWait h (s.footprintNow h q.stroke) := by
  obtain ⟨claim, yield, -⟩ := State.clearToIssue_eq (h := h) rating slot
  refine State.evaluate_of_record front ?_
  rw [passes.verdict]
  by_cases free : s.Unclaimed h q.stroke
  · exact .inr (yield free fun clear => held ⟨free, clear⟩)
  · exact .inl (claim free)

/-- An evaluation that refuses (R71). -/
theorem State.evaluate_refuses {reason : RefusalReason} (front : (s.head h).queue.head? = some q)
    (verdict : s.verdict h q = .refuse reason) : s.evaluate h = s.refuseStroke h q reason := by
  rw [State.evaluate, eq_cons_of_head? front]
  simp only [verdict]

/-- An evaluation that issues (R80). -/
theorem State.evaluate_issues (front : (s.head h).queue.head? = some q) (passes : s.PassesRating h q.stroke rating)
    (slot : q.notify = true → s.slotsInUse < 16) (free : s.Unclaimed h q.stroke) (clear : s.Unyielding h q.stroke) :
    s.evaluate h = s.issueStroke h q rating (s.footprintNow h q.stroke) := by
  have verdict := passes.verdict.trans ((State.clearToIssue_eq (h := h) rating slot).2.2 free clear)
  rw [State.evaluate, eq_cons_of_head? front]
  simp only [verdict]

/-! #### EVALUATION and PASS (R55, R59, R60) -/

/-- An evaluation takes its occasion (R59). -/
theorem evaluationEffect_one {rest : List Occasion} (occasions : s.occasions = .one h :: rest) :
    evaluationEffect h s = (s.withOccasions rest).evaluate h := by
  rw [evaluationEffect, occasions]
  exact if_pos rfl

/-- Settles O41: the order of a pass, and the fold of the evaluations over it. -/
theorem passEvaluatesInOrder : Obligations.PassEvaluatesInOrder := by
  refine ⟨fun except rest s runs occasions => ?_, fun h rest s runs occasions => ?_⟩
  · intro waiting order
    have effect : passEffect s = (s.withOccasions rest).makePass except := by rw [passEffect, occasions]
    have passOrder : (s.withOccasions rest).passOrder except = order := by
      have others : (allHeads.filter fun h => !waiting.contains h) = ([0, 1, 2,
        3] : List Head).filter fun h => h ∉ waiting :=
        List.filter_congr fun h _ => by simp
      show (waiting ++ allHeads.filter fun h => !waiting.contains h).filter (fun h => some h != except) = order
      rw [others]
      exact List.filter_congr fun h _ => Bool.eq_iff_iff.mpr (by simp)
    refine (act_runs s runs).trans (congrArg Host.Outcome.next (congrArg settle ?_))
    rw [effect, State.makePass, passOrder]
    rfl
  · refine (act_runs s runs).trans (congrArg Host.Outcome.next (congrArg settle ?_))
    rw [evaluationEffect_one occasions]
    rfl

/-- Settles O37: such an evaluation takes its occasion and leaves the rest. -/
theorem evaluationWaits : Obligations.EvaluationWaits := by
  intro h rest s runs occasions waits
  have effect : evaluationEffect h s = s.withOccasions rest := by
    rw [evaluationEffect_one occasions]
    exact State.evaluate_waits (s := s.withOccasions rest) waits
  refine ⟨_, act_runs s runs, ?_⟩
  rw [effect]
  exact ⟨by simp, by simp, by simp, sameMap_settle (by simp), sameTables_settle (by simp), sameEvents_settle (by simp),
    sameNotices_settle (by simp),
    sameManagement_settle (by simp), sameDrive_settle (by simp), sameRest_settle (by simp)⟩

/-- Settles O38: the wait is recorded, and nothing else changes. -/
theorem claimAndYieldWaitsRecorded : Obligations.ClaimAndYieldWaitsRecorded := by
  intro h q rating rest s runs occasions front passes slot held
  have effect : evaluationEffect h s = (s.withOccasions rest).recordWait h (s.footprintNow h q.stroke) := by
    rw [evaluationEffect_one occasions]
    exact State.evaluate_records (s := s.withOccasions rest) front passes slot held
  have waitList : ((s.withOccasions rest).recordWait h (s.footprintNow h q.stroke)).waitList =
      if s.waits h = true
        then s.waitList.map fun e => if e.head = h then ⟨h, s.footprintNow h q.stroke⟩ else e
        else s.waitList ++ [⟨h, s.footprintNow h q.stroke⟩] := by
    rw [State.recordWait]
    by_cases waits : s.waits h = true
    · rw [if_pos waits]
      refine (congrArg State.waitList (if_pos waits)).trans (List.map_congr_left fun e _ => ?_)
      split
      · next same => rw [← same]
      · rfl
    · rw [if_neg waits]
      exact congrArg State.waitList (if_neg waits)
  refine ⟨_, act_runs s runs, ?_⟩
  rw [effect]
  exact ⟨by simp, by rw [settle_waitList, waitList], by simp, sameMap_settle (by simp), sameTables_settle (by simp),
    sameEvents_settle (by simp),
    sameNotices_settle (by simp), sameManagement_settle (by simp), sameDrive_settle (by simp),
    sameRest_settle (by simp)⟩

/-- An evaluation whose verdict is a refusal refuses the front stroke (R71, R72). -/
theorem evaluation_refuses {reason : RefusalReason} {rest : List Occasion} (runs : s.Runs)
    (occasions : s.occasions = .one h :: rest) (front : (s.head h).queue.head? = some q) (admits : s.HeadAdmits h)
    (verdict : s.verdict h q = .refuse reason) :
    ∃ t, exec (.evaluation h) s = .next t ∧ StrokeRefused h q reason rest s t := by
  have effect : evaluationEffect h s = (s.withOccasions rest).refuseStroke h q reason := by
    rw [evaluationEffect_one occasions]
    exact State.evaluate_refuses (s := s.withOccasions rest) front verdict
  refine ⟨_, act_runs s runs, ?_⟩
  rw [effect, State.refuseStroke_eq, State.kept_of_loaded (s := s.withOccasions rest) admits.1]
  exact ⟨by simp [HeadRecord.strokeRefused], sameOtherHeads_settle (by simp +contextual), by simp; rfl, by simp,
    eventContents_raise (by simp),
    sameMap_settle (by simp), sameTables_settle (by simp), sameNotices_settle (by simp),
    sameManagement_settle (by simp), sameDrive_settle (by simp), sameRest_settle (by simp)⟩

/-- Settles O39: each check in its order gives its verdict. -/
theorem evaluationRefusesTheStroke : Obligations.EvaluationRefusesTheStroke := by
  refine ⟨fun h q rest s runs occasions front admits => ?_,
    fun h q rest s runs occasions front admits starts lies cut => ?_⟩
  · intro st refusedFor inside
    have refused {reason : RefusalReason} (verdict : s.verdict h q = .refuse reason) : refusedFor reason :=
      evaluation_refuses runs occasions front admits verdict
    refine ⟨fun unknown => ?_, fun known apart => ?_, fun starts outside => ?_, fun starts within long => ?_,
      fun starts lies travel low => ?_, fun starts lies travel clear zero => ?_⟩
    · exact refused (State.verdict_noPosition admits unknown)
    · exact refused (State.verdict_discontinuous admits known apart)
    · exact refused (State.verdict_outOfBlock admits starts outside)
    · exact refused (State.verdict_tooLong admits starts within long)
    · exact refused (State.verdict_refusedRating admits starts lies ((State.rate_travel travel).1 low))
    · exact refused (State.verdict_refusedRating admits starts lies ((State.rate_travel travel).2.1 clear zero))
  · intro st refusedFor
    have refused {reason : RefusalReason} (rated : s.rate h q.stroke = .error reason) : refusedFor reason :=
      evaluation_refuses runs occasions front admits (State.verdict_refusedRating admits starts lies rated)
    obtain ⟨zoneDenied, belowFloor, gradeUnset, feed⟩ := State.rate_cut (s := s) (h := h) cut
    refine ⟨fun denied => refused (zoneDenied denied), fun allowed below => refused (belowFloor allowed below),
      fun allowed kept unset => refused (gradeUnset allowed kept unset), fun allowed kept set rating rated zero => ?_⟩
    exact refused ((feed rating allowed kept set rated).trans (if_pos zero))

/-- The outbound state after an issue: QUEUE_LOW, when the queue falls below the low-water mark (R32). -/
theorem State.queueLowNoted_out (s : State) (h : Head) (q : QueuedStroke) :
    (s.queueLowNoted h q).out.events.map EventSlot.content =
        (if (s.head h).settings.lowWater = (s.head h).queue.length
          then s.eventsWith (.ofHead .queueLow h)
          (.queueLow q.stroke.tag (s.head h).issueCounter) else s.eventContents) ∧
      (s.queueLowNoted h q).out.notices = s.out.notices ∧ (s.queueLowNoted h q).out.enables = s.out.enables ∧
      (s.queueLowNoted h q).out.replySlot = s.out.replySlot := by
  rw [State.queueLowNoted, State.withOut_out]
  split
  · exact ⟨rfl, Outbound.raise_notices .., Outbound.raise_enables .., Outbound.raise_replySlot ..⟩
  · exact ⟨rfl, rfl, rfl, rfl⟩

/-- What an issue does beside its head's record, when its occasion has been taken (R80). -/
abbrev State.issuedFrom (s : State) (h : Head) (q : QueuedStroke) (rating : Rating) (rest : List Occasion) : State :=
  ((((s.queueLowNoted h q).withCells
    (CutMap.modifyAll s.block.top (Cell.claimBy h) (s.footprintNow h q.stroke) s.cells)).withWaitList
    (s.waitsWithout h)).withDrive
    { s.drive with queue := s.drive.queue ++ [(buildRecord s h q rating).issueFrame h] }).withOccasions
    (rest ++ if (s.head h).state = .ready then [.one h] else [])

/-- The state after an evaluation that issues (R80). -/
theorem evaluationEffect_issues {rest : List Occasion} (occasions : s.occasions = .one h :: rest)
    (front : (s.head h).queue.head? = some q) (passes : s.PassesRating h q.stroke rating)
    (slot : q.notify = true → s.slotsInUse < 16) (free : s.Unclaimed h q.stroke) (clear : s.Unyielding h q.stroke) :
    evaluationEffect h s =
      (s.issuedFrom h q rating rest).modHead h (HeadRecord.strokeIssued q (buildRecord s h q rating)) := by
  have queued : ((s.withOccasions rest).head h).queue ≠ [] := fun empty => by
    rw [show (s.head h).queue = [] from empty] at front
    cases front
  have kept : (s.withOccasions rest).kept [.one h] = [.one h] :=
    State.kept_of_loaded (s := s.withOccasions rest) passes.1.1 _
  rw [evaluationEffect_one occasions, State.evaluate_issues (s := s.withOccasions rest) front passes slot free clear,
    State.issueStroke_eq (s := s.withOccasions rest) _ _ _ _ queued, State.issuedAround, kept]
  rfl

/-- An issue adds the reservation of its record to the done slots in use (R85, R168). -/
theorem State.slotsInUse_issued {u : State} (heads : u.heads = s.heads) (notices : u.out.notices = s.out.notices) :
    (u.modHead h (HeadRecord.strokeIssued q (buildRecord s h q rating))).slotsInUse =
      s.slotsInUse + if q.notify = true then 1 else 0 := by
  have moved := State.slotsInUse_modHead (u := u) (h := h) (f := HeadRecord.strokeIssued q (buildRecord s h q rating))
    (s := s) heads
  have joined : ((s.head h).strokeIssued q (buildRecord s h q rating)).reservations =
      (s.head h).reservations + if q.notify = true then 1 else 0 := by
    rw [HeadRecord.reservations_eq, HeadRecord.strokeIssued, reserved, List.countP_append]
    congr 1
    split <;> simp [buildRecord, List.countP_cons]
  rw [joined, notices] at moved
  omega

/-- Settles O40: the issue in closed form, field by field. -/
theorem evaluationIssuesTheStroke : Obligations.EvaluationIssuesTheStroke := by
  intro h q rating rest s runs occasions front passes slot free clear hd st built r
  obtain ⟨events, notices, enables, reply⟩ := s.queueLowNoted_out h q
  have admitted : (s.head h).state = .ready ∨ (s.head h).state = .cutting := passes.1.2.2.1
  have cutting : (if (s.head h).state = .ready then .cutting else (s.head h).state : HeadState) = .cutting := by
    obtain state | state := admitted <;> rw [state] <;> rfl
  have timed : ((s.head h).state != .fault) = true := by
    obtain state | state := admitted <;> rw [state] <;> rfl
  refine ⟨_, act_runs s runs, ?_⟩
  rw [evaluationEffect_issues occasions front passes slot free clear]
  refine ⟨?record, sameOtherHeads_settle (by simp +contextual), fun block map x narrow => ?cells, ?block, ?waitList,
    ?occasions, ?frames, ?events,
    ?slots, sameTables_settle (by simp), sameNotices_settle notices, sameManagement_settle ⟨by simp, reply⟩,
    sameRest_settle ⟨by simp, enables, by simp, by simp⟩⟩
  case record =>
    rw [settle_head, State.head_modHead_same, State.head_of_heads (s := s) h (by simp), HeadRecord.strokeIssued,
      cutting,
      timed]
    rfl
  case cells =>
    rw [State.cell, settle_block, settle_cells]
    exact read_modifyAll_footprint map block.columns_le (Cell.claimBy h) q.stroke (s.head h).settings.guard narrow
  case block => simp
  case waitList => simp
  case occasions => simp [hd]
  case frames =>
    rw [settle_driveFrames]
    exact (List.append_assoc ..).symm
  case events =>
    rw [settle_eventContents]
    exact events
  case slots =>
    rw [settle_slotsInUse]
    exact State.slotsInUse_issued (by simp) notices

end Sys2Proof.Machine
